-- ==== Sys2Proof/Word.lean ====
section
/-! DEFINITION. The word types of the serial framing engine (spec/00_scope.md R7, R8). -/

namespace Sys2Proof

/-- A wire symbol, a retry counter, a sequence number, a one-byte operand (R7, R100). -/
abbrev Byte := BitVec 8

/-- A KFT length or CRC field, any CRC-16, a 16-bit operand (R7). -/
abbrev Half := BitVec 16

/-- A register value, a timer, the XT byte total (R7, R80). -/
abbrev Word := BitVec 32

end Sys2Proof
end

