-- ==== Sys2Proof/Syntax.lean ====
section
/-! DEFINITION. The instructions of the block: one constructor per row of spec/opcode_table.json (30_encoding.md R121,
R130). Operands keep the widths of R120; values outside a row's legal range stay expressible, because the row's rule
answers them with a status (R122). -/

namespace Sys2Proof

/-- The units that own a channel (10_state.md R49). -/
inductive UnitId where
  | fe | xr | xt
  deriving DecidableEq, Repr

/-- The instructions, in the order of the opcode table. -/
inductive Instr where
  /-- REG_READ (R320) -/
  | regRead (reg : Byte)
  /-- REG_WRITE (R321) -/
  | regWrite (reg : Byte) (value : Word)
  /-- EV_POP (R322) -/
  | evPop (unit : Byte)
  /-- FE_SEND (R180) -/
  | feSend (type : Byte) (len : Half) (bytes : List Byte)
  /-- FE_TAKE (R185) -/
  | feTake
  /-- FE_ABORT_DATA_PHASE (R186) -/
  | feAbortDataPhase
  /-- FE_CLR_OVF (R187) -/
  | feClrOvf
  /-- XR_START (R221) -/
  | xrStart (mode : Byte)
  /-- XR_CANCEL (R222) -/
  | xrCancel
  /-- XR_CLR_OVF (R223) -/
  | xrClrOvf
  /-- XT_START (R271) -/
  | xtStart
  /-- XT_SEND_FRAME (R280) -/
  | xtSendFrame (n : Half) (bytes : List Byte)
  /-- XT_OVER (R291) -/
  | xtOver
  /-- XT_CANCEL (R272) -/
  | xtCancel
  /-- XT_CLR_OVF (R273) -/
  | xtClrOvf
  /-- CRC_INIT (R145) -/
  | crcInit (mode : Byte)
  /-- CRC_FEED (R146) -/
  | crcFeed (byte : Byte)
  /-- KFT_ACK, wire 5A A1 (R163) -/
  | kftAck
  /-- KFT_NAK, wire 5A A2 (R164) -/
  | kftNak
  /-- KFT_ACK_ABORT, wire 5A A3 (R165) -/
  | kftAckAbort
  /-- KFT_COMMAND, wire 5A A4 (R166) -/
  | kftCommand
  /-- KFT_DATA, wire 5A A5 (R167) -/
  | kftData
  /-- KFT_PING, wire 5A A6 (R168) -/
  | kftPing
  /-- KFT_PING_RESPONSE, wire 5A A7 (R169) -/
  | kftPingResponse
  /-- XR_SOH, 0x01 in WAIT_HEADER (R227) -/
  | xrSoh
  /-- XR_STX, 0x02 in WAIT_HEADER (R228) -/
  | xrStx
  /-- XR_EOT, 0x04 in WAIT_HEADER (R229) -/
  | xrEot
  /-- XR_CAN, 0x18 in WAIT_HEADER (R230) -/
  | xrCan
  /-- XT_MODE_CRC, 0x43 in AWAIT_MODE (R276) -/
  | xtModeCrc
  /-- XT_MODE_CHECKSUM, 0x15 in AWAIT_MODE (R277) -/
  | xtModeChecksum
  /-- XT_ACK, 0x06 in AWAIT_ACK (R289) or AWAIT_EOT_ACK (R292) -/
  | xtAck
  /-- XT_NAK, 0x15 in AWAIT_ACK (R290) or AWAIT_EOT_ACK (R292) -/
  | xtNak
  /-- XT_CAN, 0x18 in any active state (R278) -/
  | xtCan
  deriving DecidableEq, Repr

/-- One host command as the port carries it (R120): the opcode byte and the operand lanes. Every row of R121 uses at
most one operand of each width, so a lane a row does not name is not read. DESIGN CHOICE (safe, log 5): R120 gives the
widths and no byte order, and R80 says that none applies, so the port carries operands whole. -/
structure Command where
  /-- The opcode byte. -/
  op : Byte
  /-- The 8-bit operand: `reg`, `unit`, `type`, `mode` or `byte`. -/
  arg8 : Byte
  /-- The 16-bit operand: `len` or `n`. -/
  arg16 : Half
  /-- The 32-bit operand: `value`. -/
  arg32 : Word
  /-- The byte sequence operand: `bytes`. -/
  bytes : List Byte
  deriving DecidableEq, Repr

/-- The encoding spaces of the block (R130), each with the unit state in which its bytes are read. -/
inductive Encoding where
  /-- HOSTCMD: a host command (R121). -/
  | command (c : Command)
  /-- KFT_HDR: the two bytes FE takes in WAIT_START then WAIT_TYPE (R101). -/
  | kftHeader (first second : Byte)
  /-- XR_BYTE: a byte XR takes in WAIT_HEADER (R226). -/
  | xrHeader (b : Byte)
  /-- XT_BYTE: a byte XT takes in AWAIT_MODE (R275). -/
  | xtMode (b : Byte)
  /-- XT_BYTE: a byte XT takes in AWAIT_ACK or AWAIT_EOT_ACK (R288, R292). -/
  | xtReply (b : Byte)
  /-- XT_BYTE: a byte XT takes in WAIT_FRAME or a SEND state (R279, R287). -/
  | xtBusy (b : Byte)
  deriving DecidableEq, Repr

end Sys2Proof
end

