-- ==== Sys2Proof/WellFormed.lean ====
section
/-! DEFINITION. Which instructions are well formed. R120 gives every operand its width, which the types of `Instr`
already fix, and one check that they do not: the byte sequence of FE_SEND is `len` bytes, that of XT_SEND_FRAME `n`. -/

namespace Sys2Proof

/-- The operand check of R120, as a decidable test. -/
def Instr.wellFormed : Instr → Bool
  | .feSend _ len bytes => bytes.length == len.toNat
  | .xtSendFrame n bytes => bytes.length == n.toNat
  | .regRead _ | .regWrite _ _ | .evPop _ | .feTake | .feAbortDataPhase | .feClrOvf
  | .xrStart _ | .xrCancel | .xrClrOvf | .xtStart | .xtOver | .xtCancel | .xtClrOvf
  | .crcInit _ | .crcFeed _
  | .kftAck | .kftNak | .kftAckAbort | .kftCommand | .kftData | .kftPing | .kftPingResponse
  | .xrSoh | .xrStx | .xrEot | .xrCan
  | .xtModeCrc | .xtModeChecksum | .xtAck | .xtNak | .xtCan => true

/-- `i` is well formed (R120). -/
abbrev Instr.WellFormed (i : Instr) : Prop := i.wellFormed = true

end Sys2Proof
end

