-- ==== Sys2Proof/Decode.lean ====
section
/-! DEFINITION. The decoder of the four encoding spaces of spec/30_encoding.md (R101, R108, R109, R113, R121, R122,
R130), total on every command and on every byte, rejecting by name; then the encoder, from the same tables. -/

namespace Sys2Proof

/-- Why an encoding is no instruction. A rejection is not a refusal of the machine: the unit's default rule says what
happens to such a byte or command (`Machine/Turns.lean`). -/
inductive Reject where
  /-- A host opcode R121 does not list: the command returns INVALID (R122). -/
  | reservedOpcode (op : Byte)
  /-- The first byte of a KFT header is not 0x5A: discarded (R161). -/
  | notStartByte (b : Byte)
  /-- 0x5A in the type position: a new start byte (R162, R108). -/
  | restart
  /-- A type byte outside 0xA1..0xA7: discarded (R162, R108). -/
  | unknownType (b : Byte)
  /-- A byte that is no header in WAIT_HEADER: noise (R226, R113). -/
  | noise (b : Byte)
  /-- A byte XT's state does not act on: discarded (R275, R279, R287, R288, R292). -/
  | ignored (b : Byte)
  deriving DecidableEq, Repr

/-- What the decoder answers. -/
inductive Decoded where
  | instr (i : Instr)
  | reject (r : Reject)
  deriving DecidableEq, Repr

/-- The instruction of an answer, if there is one. -/
def Decoded.toInstr : Decoded → Option Instr
  | .instr i => some i
  | .reject _ => none

/-- A host command: the opcode of R121 selects the row, the row selects the lanes; every other opcode is reserved
(R122). -/
def decodeCommand (c : Command) : Decoded :=
  if c.op = 0x01 then .instr (.regRead c.arg8)
  else if c.op = 0x02 then .instr (.regWrite c.arg8 c.arg32)
  else if c.op = 0x03 then .instr (.evPop c.arg8)
  else if c.op = 0x10 then .instr (.feSend c.arg8 c.arg16 c.bytes)
  else if c.op = 0x11 then .instr .feTake
  else if c.op = 0x12 then .instr .feAbortDataPhase
  else if c.op = 0x13 then .instr .feClrOvf
  else if c.op = 0x20 then .instr (.xrStart c.arg8)
  else if c.op = 0x21 then .instr .xrCancel
  else if c.op = 0x22 then .instr .xrClrOvf
  else if c.op = 0x30 then .instr .xtStart
  else if c.op = 0x31 then .instr (.xtSendFrame c.arg16 c.bytes)
  else if c.op = 0x32 then .instr .xtOver
  else if c.op = 0x33 then .instr .xtCancel
  else if c.op = 0x34 then .instr .xtClrOvf
  else if c.op = 0x40 then .instr (.crcInit c.arg8)
  else if c.op = 0x41 then .instr (.crcFeed c.arg8)
  else .reject (.reservedOpcode c.op)

/-- A KFT header (R101, R108, R162). -/
def decodeKftHeader (first second : Byte) : Decoded :=
  if first ≠ 0x5A then .reject (.notStartByte first)
  else if second = 0xA1 then .instr .kftAck
  else if second = 0xA2 then .instr .kftNak
  else if second = 0xA3 then .instr .kftAckAbort
  else if second = 0xA4 then .instr .kftCommand
  else if second = 0xA5 then .instr .kftData
  else if second = 0xA6 then .instr .kftPing
  else if second = 0xA7 then .instr .kftPingResponse
  else if second = 0x5A then .reject .restart
  else .reject (.unknownType second)

/-- A byte XR takes in WAIT_HEADER (R109, R113, R226). -/
def decodeXrHeader (b : Byte) : Decoded :=
  if b = 0x01 then .instr .xrSoh
  else if b = 0x02 then .instr .xrStx
  else if b = 0x04 then .instr .xrEot
  else if b = 0x18 then .instr .xrCan
  else .reject (.noise b)

/-- A byte XT takes in AWAIT_MODE (R275). -/
def decodeXtMode (b : Byte) : Decoded :=
  if b = 0x43 then .instr .xtModeCrc
  else if b = 0x15 then .instr .xtModeChecksum
  else if b = 0x18 then .instr .xtCan
  else .reject (.ignored b)

/-- A byte XT takes in AWAIT_ACK or AWAIT_EOT_ACK (R288, R292). -/
def decodeXtReply (b : Byte) : Decoded :=
  if b = 0x06 then .instr .xtAck
  else if b = 0x15 then .instr .xtNak
  else if b = 0x18 then .instr .xtCan
  else .reject (.ignored b)

/-- A byte XT takes in WAIT_FRAME or a SEND state (R279, R287). -/
def decodeXtBusy (b : Byte) : Decoded :=
  if b = 0x18 then .instr .xtCan else .reject (.ignored b)

/-- The decoder of the block: total, one answer for every encoding. -/
def decode : Encoding → Decoded
  | .command c => decodeCommand c
  | .kftHeader first second => decodeKftHeader first second
  | .xrHeader b => decodeXrHeader b
  | .xtMode b => decodeXtMode b
  | .xtReply b => decodeXtReply b
  | .xtBusy b => decodeXtBusy b

/-- A command with opcode `op` whose lanes hold zero: what a row without operands sends. -/
def Command.bare (op : Byte) : Command := ⟨op, 0, 0, 0, []⟩

/-- The encoder, row by row from R101, R109 and R121. XT_CAN is encoded as the byte 0x18 in an acknowledgement state;
`decode` reads it in the other active states too. -/
def encode : Instr → Encoding
  | .regRead reg => .command { Command.bare 0x01 with arg8 := reg }
  | .regWrite reg value => .command { Command.bare 0x02 with arg8 := reg, arg32 := value }
  | .evPop unit => .command { Command.bare 0x03 with arg8 := unit }
  | .feSend type len bytes => .command { Command.bare 0x10 with arg8 := type, arg16 := len, bytes := bytes }
  | .feTake => .command (Command.bare 0x11)
  | .feAbortDataPhase => .command (Command.bare 0x12)
  | .feClrOvf => .command (Command.bare 0x13)
  | .xrStart mode => .command { Command.bare 0x20 with arg8 := mode }
  | .xrCancel => .command (Command.bare 0x21)
  | .xrClrOvf => .command (Command.bare 0x22)
  | .xtStart => .command (Command.bare 0x30)
  | .xtSendFrame n bytes => .command { Command.bare 0x31 with arg16 := n, bytes := bytes }
  | .xtOver => .command (Command.bare 0x32)
  | .xtCancel => .command (Command.bare 0x33)
  | .xtClrOvf => .command (Command.bare 0x34)
  | .crcInit mode => .command { Command.bare 0x40 with arg8 := mode }
  | .crcFeed byte => .command { Command.bare 0x41 with arg8 := byte }
  | .kftAck => .kftHeader 0x5A 0xA1
  | .kftNak => .kftHeader 0x5A 0xA2
  | .kftAckAbort => .kftHeader 0x5A 0xA3
  | .kftCommand => .kftHeader 0x5A 0xA4
  | .kftData => .kftHeader 0x5A 0xA5
  | .kftPing => .kftHeader 0x5A 0xA6
  | .kftPingResponse => .kftHeader 0x5A 0xA7
  | .xrSoh => .xrHeader 0x01
  | .xrStx => .xrHeader 0x02
  | .xrEot => .xrHeader 0x04
  | .xrCan => .xrHeader 0x18
  | .xtModeCrc => .xtMode 0x43
  | .xtModeChecksum => .xtMode 0x15
  | .xtAck => .xtReply 0x06
  | .xtNak => .xtReply 0x15
  | .xtCan => .xtReply 0x18

/-- The opcode-table bits an encoding carries: how many, and their value (R130). -/
def Encoding.tableWord : Encoding → Nat × Nat
  | .command c => (8, c.op.toNat)
  | .kftHeader first second => (16, 256 * first.toNat + second.toNat)
  | .xrHeader b | .xtMode b | .xtReply b | .xtBusy b => (8, b.toNat)

/-- The encodings a word of the opcode table may stand for, in the table's order of formats. An 8-bit word is an opcode
byte with zero operands, or a byte XR or XT takes; a 16-bit word is `{first byte, second byte}`, the first in bits
15..8 (R8, R130). -/
def tableEncodings (nbits w : Nat) : List Encoding :=
  if nbits = 8 then
    [.command (Command.bare (BitVec.ofNat 8 w)), .xrHeader (BitVec.ofNat 8 w), .xtMode (BitVec.ofNat 8 w),
     .xtReply (BitVec.ofNat 8 w)]
  else if nbits = 16 then [.kftHeader (BitVec.ofNat 8 (w / 256)) (BitVec.ofNat 8 w)]
  else []

/-- The first of the encodings that the decoder takes for an instruction. -/
def firstDecoded : List Encoding → Option Encoding
  | [] => none
  | e :: es => match decode e with
    | .instr _ => some e
    | .reject _ => firstDecoded es

/-- The encoding a word of the opcode table is read as. Four table words stand in two formats (0x01, 0x02, 0x15, 0x18);
the earlier row wins. DESIGN CHOICE (safe, log 10): on the wire the unit and its state tell them apart, and this reading
of a bare word has neither. -/
def tableEncoding (nbits w : Nat) : Option Encoding := firstDecoded (tableEncodings nbits w)

/-- The instruction the decoder reads from a word of the opcode table; operands above `nbits` are zero. -/
def decodeTableWord (nbits w : Nat) : Option Instr :=
  match tableEncoding nbits w with
  | some e => (decode e).toInstr
  | none => none

end Sys2Proof
end

