-- ==== Sys2Proof/Machine/Crc.lean ====
section
/-! DEFINITION. The CRC-16 and checksum functions of spec/40_crc.md R140, R142, R144. -/

namespace Sys2Proof.Machine

/-- `f` applied `n` times. -/
def iter {α : Type} (f : α → α) : Nat → α → α
  | 0, a => a
  | n + 1, a => iter f n (f a)

/-- One round of `step_ccitt`: shift left, and XOR 0x1021 when bit 15 was 1 (R140). -/
def ccittBit (c : Half) : Half := if c.getLsbD 15 then (c <<< 1) ^^^ 0x1021#16 else c <<< 1

/-- `step_ccitt(c, b)`: MSB first (R140). -/
def stepCcitt (c : Half) (b : Byte) : Half := iter ccittBit 8 (c ^^^ (b.setWidth 16 <<< 8))

/-- `crc16_ccitt(init, s)` (R140). -/
def crc16Ccitt (init : Half) (s : List Byte) : Half := s.foldl stepCcitt init

/-- One round of `step_modbus`: shift right, and XOR 0xA001 when bit 0 was 1 (R142). -/
def modbusBit (c : Half) : Half := if c.getLsbD 0 then (c >>> 1) ^^^ 0xA001#16 else c >>> 1

/-- `step_modbus(c, b)`: LSB first (R142). -/
def stepModbus (c : Half) (b : Byte) : Half := iter modbusBit 8 (c ^^^ b.setWidth 16)

/-- `crc16_modbus(init, s)` (R142). -/
def crc16Modbus (init : Half) (s : List Byte) : Half := s.foldl stepModbus init

/-- `sum8(s)`: the XMODEM checksum, modulo 256 (R144). -/
def sum8 (s : List Byte) : Byte := s.foldl (· + ·) 0

end Sys2Proof.Machine
end

