-- ==== Sys2Proof/Config.lean ====
section
/-! DEFINITION. The implementation parameters of the block (spec/00_scope.md R6; 92_eei_decisions.md, Open parameters).
They are plain data, carried by the state and never written by a step, so that a statement about every state is a
statement about every legal value of every parameter (93_implementation_defined.md, treatment `parameter`). -/

namespace Sys2Proof

/-- The parameters of R6, one field each. Where a width fixes the legal range exactly, the type is that width. -/
structure Config where
  /-- `P_RXQ_CAP`: size of each receive ring, 2 .. 2^16. -/
  rxqCap : Nat
  /-- `P_TXQ_CAP`: size of each transmit queue, at least max(10, 6 + P_MPS_MAX). -/
  txqCap : Nat
  /-- `P_EVQ_CAP`: size of each event queue, 1 .. 2^16. -/
  evqCap : Nat
  /-- `P_MPS_MAX`: capacity of the FE packet buffer, 32 .. 65535. -/
  mpsMax : Nat
  /-- `P_FE_TX_MAX_RETRIES`: 0 .. 255, or `none` for UNBOUNDED. -/
  feTxMaxRetries : Option Byte
  /-- `P_FE_ACK_TIMEOUT`, ticks; 0 means none. -/
  feAckTimeout : Word
  /-- `P_XR_MAX_RETRIES`: 0 .. 255. -/
  xrMaxRetries : Byte
  /-- `P_XR_TIMEOUT`, ticks; 0 means none. -/
  xrTimeout : Word
  /-- `P_XT_MAX_RETRIES`: 0 .. 255. -/
  xtMaxRetries : Byte
  /-- `P_XT_ACK_TIMEOUT`, ticks; 0 means none. -/
  xtAckTimeout : Word
  /-- `P_KFT_VERSION`: protocol version reported by PING-RESPONSE. -/
  kftVersion : Word
  /-- `P_KFT_PING_OPTIONS`: options reported by PING-RESPONSE. -/
  kftPingOptions : Half
  /-- `P_TICK_PERIOD`: real time per tick; no rule reads it (U9). -/
  tickPeriod : Nat
  deriving DecidableEq, Repr

/-- The legal ranges of the open parameters (92_eei_decisions.md) that the field types do not already fix. -/
abbrev Config.Legal (c : Config) : Prop :=
  2 ≤ c.rxqCap ∧ c.rxqCap ≤ 65536 ∧ 32 ≤ c.mpsMax ∧ c.mpsMax ≤ 65535 ∧
  10 ≤ c.txqCap ∧ 6 + c.mpsMax ≤ c.txqCap ∧ 1 ≤ c.evqCap ∧ c.evqCap ≤ 65536

/-- The parameter values of spec/95_test_vectors.md. DESIGN CHOICE (unsafe, log 2): `State.reset` takes them, because
a reset state needs some value of each parameter and the spec fixes none. -/
def Config.vectors : Config where
  rxqCap := 64
  txqCap := 2048
  evqCap := 8
  mpsMax := 512
  feTxMaxRetries := some 2
  feAckTimeout := 0
  xrMaxRetries := 3
  xrTimeout := 0
  xtMaxRetries := 3
  xtAckTimeout := 0
  kftVersion := 0x50010200
  kftPingOptions := 0
  tickPeriod := 0

end Sys2Proof
end

