-- ==== Sys2Proof/Machine/Units.lean ====
section
/-! DEFINITION. The state of the four units and of their channels (spec/10_state.md R20 to R49), the event records
(60_exceptions.md R341, R342), and each unit's reset value (R23, R33, R43, R48, R49, R370). -/

namespace Sys2Proof.Machine

/-- XMODEM validation mode (R30, R40; CHECKSUM 0, CRC 1, D8). -/
inductive CheckMode where
  | checksum | crc
  deriving DecidableEq, Repr

/-- CRC unit mode (R47; CCITT 0, MODBUS 1). -/
inductive CrcMode where
  | ccitt | modbus
  deriving DecidableEq, Repr

/-- FE `rx_state` (R21). -/
inductive RxState where
  | waitStart | waitType | lenLo | lenHi | crcLo | crcHi | payload
  deriving DecidableEq, Repr

/-- XR `state` (R31). -/
inductive XrState where
  | idle | waitHeader | waitSequence | waitSequenceComplement | receiveData | done | cancelled | failed
  deriving DecidableEq, Repr

/-- XT `state` (R41). -/
inductive XtState where
  | idle | awaitMode | waitFrame | sendHeader | sendSequence | sendSequenceComplement | sendData | sendChecksum
  | awaitAck | awaitEotAck | done | cancelled | failed
  deriving DecidableEq, Repr

/-- Event records with the fields of R342, in its order. -/
inductive Event where
  | feTxOk (type : Byte)
  | feTxAborted (type : Byte)
  | feTxRetriesExhausted (type : Byte)
  | feTxTimeout (type : Byte)
  | xrFrame (seq : Byte) (size : Half) (data : List Byte)
  | xrDone (frames : Byte)
  | xrCancelled (seq : Byte)
  | xrBadMessage (seq : Byte)
  | xrTimeout (seq : Byte)
  | xtReady (mode : Byte)
  | xtAcked (seq : Byte) (n : Half) (last : Byte)
  | xtDone (total : Word)
  | xtCancelled (seq : Byte)
  | xtRetriesExhausted (seq : Byte)
  | xtTimeout (seq : Byte)
  deriving DecidableEq, Repr

/-- The channel of one unit (R49). The ring is `rxBuf` with its two offsets, one slot never used (D4). -/
structure Channel where
  rxBuf : List Byte
  readOffset : Nat
  writeOffset : Nat
  rxOverflow : Bool
  txq : List Byte
  evq : List Event
  deriving DecidableEq, Repr

/-- The KFT framing engine FE (R20). -/
structure Fe where
  rxState : RxState
  pktType : Byte
  pktLen : Half
  pktCrc : Half
  pktCount : Half
  pktBuf : List Byte
  isAckNeeded : Bool
  isAckAbortNeeded : Bool
  isBackToBackWrite : Bool
  mps : Half
  dlvValid : Bool
  dlvType : Byte
  dlvLen : Half
  dlvPayload : List Byte
  txCopy : List Byte
  txCopyType : Byte
  txRetry : Byte
  timer : Word
  chan : Channel
  deriving DecidableEq, Repr

/-- The XMODEM receiver XR (R30); `trailer` is `{trailer0, trailer1}`. -/
structure Xr where
  state : XrState
  mode : CheckMode
  first : Bool
  expectedSeq : Byte
  rxSeq : Byte
  size1k : Bool
  count : BitVec 11
  tcount : BitVec 2
  trailer0 : Byte
  trailer1 : Byte
  buf : List Byte
  retry : Byte
  timer : Word
  chan : Channel
  deriving DecidableEq, Repr

/-- The XMODEM transmitter XT (R40). -/
structure Xt where
  state : XtState
  mode : CheckMode
  seq : Byte
  buf : List Byte
  dataLen : BitVec 11
  short : Bool
  sent : BitVec 11
  tidx : Bool
  retry : Byte
  total : Word
  timer : Word
  chan : Channel
  deriving DecidableEq, Repr

/-- The CRC unit CRCU (R46). -/
structure Crcu where
  acc : Half
  mode : CrcMode
  deriving DecidableEq, Repr

/-- Ticks that wait with the tick source because the unit's tick step was held (R64, D3), one count per unit. -/
structure PendingTicks where
  fe : Nat
  xr : Nat
  xt : Nat
  deriving DecidableEq, Repr

/-- R49: both offsets 0, queues empty. The ring bytes are unspecified and never read before they are written:
DESIGN CHOICE (unsafe, log 3), zero bytes. -/
def Channel.reset (c : Config) : Channel where
  rxBuf := List.replicate c.rxqCap 0
  readOffset := 0
  writeOffset := 0
  rxOverflow := false
  txq := []
  evq := []

/-- R23. `pkt_buf` and `dlv_payload` are unspecified: DESIGN CHOICE (unsafe, log 3), zero bytes. -/
def Fe.reset (c : Config) : Fe where
  rxState := .waitStart
  pktType := 0
  pktLen := 0
  pktCrc := 0
  pktCount := 0
  pktBuf := List.replicate c.mpsMax 0
  isAckNeeded := false
  isAckAbortNeeded := false
  isBackToBackWrite := false
  mps := 32
  dlvValid := false
  dlvType := 0
  dlvLen := 0
  dlvPayload := List.replicate c.mpsMax 0
  txCopy := []
  txCopyType := 0
  txRetry := 0
  timer := 0
  chan := Channel.reset c

/-- R33. `buf` is unspecified: DESIGN CHOICE (unsafe, log 3), zero bytes. -/
def Xr.reset (c : Config) : Xr where
  state := .idle
  mode := .checksum
  first := true
  expectedSeq := 0x01
  rxSeq := 0
  size1k := false
  count := 0
  tcount := 0
  trailer0 := 0
  trailer1 := 0
  buf := List.replicate 1024 0
  retry := 0
  timer := 0
  chan := Channel.reset c

/-- R43. `buf` is unspecified: DESIGN CHOICE (unsafe, log 3), zero bytes. -/
def Xt.reset (c : Config) : Xt where
  state := .idle
  mode := .checksum
  seq := 0x01
  buf := List.replicate 1024 0
  dataLen := 0
  short := false
  sent := 0
  tidx := false
  retry := 0
  total := 0
  timer := 0
  chan := Channel.reset c

/-- R48. -/
def Crcu.reset : Crcu where
  acc := 0
  mode := .ccitt

end Sys2Proof.Machine
end

