-- ==== Sys2Proof/Machine/State.lean ====
section
/-! DEFINITION. The state of the whole block as plain data, the steps that can come next, the reasons a step can stop,
and the state after reset (spec/10_state.md; 20_memory.md R84; 30_encoding.md R124; 70_reset_and_hazards.md R370). -/

namespace Sys2Proof.Machine

/-- The status of a host command (R123). -/
inductive Status where
  | ok | busy | invalid | empty
  deriving DecidableEq, Repr

/-- The result data of a host command (R121): a register value, a delivered packet, or an event record, which starts
with its code (R341). -/
inductive Result where
  | none
  | value (v : Word)
  | packet (type : Byte) (len : Half) (bytes : List Byte)
  | record (code : Byte) (e : Event)
  deriving DecidableEq, Repr

/-- What a host command returns (R120). -/
structure Response where
  status : Status
  result : Result
  deriving DecidableEq, Repr

/-- One step of one agent, offered to the block: the steps of D2 and the port steps of R124, and reset (R370). -/
inductive Turn where
  /-- The host issues one command (R120, R323). -/
  | command (c : Command)
  /-- The peer of `u` delivers one byte (R72). -/
  | rxPush (u : UnitId) (b : Byte)
  /-- The peer of `u` removes the next byte on the wire (R76). -/
  | txPop (u : UnitId)
  /-- `u` takes a byte step (R73, R160, R220, R270). -/
  | byteStep (u : UnitId)
  /-- The tick source ticks `u` (R184, R239, R293). -/
  | tick (u : UnitId)
  /-- A held tick of `u` is tried again (R64, D3). -/
  | retryTick (u : UnitId)
  /-- XT takes an emission step (R281). -/
  | emit
  /-- The environment asserts reset (R370). -/
  | reset
  deriving DecidableEq, Repr

/-- The block with its parameters, and three fields of the model's own: the schedule, and the two port outputs. -/
structure State where
  /-- The implementation parameters, fixed for the life of the block (R6, R370). -/
  cfg : Config
  /-- FE (R20). -/
  fe : Fe
  /-- XR (R30). -/
  xr : Xr
  /-- XT (R40). -/
  xt : Xt
  /-- CRCU (R46). -/
  crcu : Crcu
  /-- Held ticks (R64). -/
  ticks : PendingTicks
  /-- MODEL'S OWN (log 4): which step is taken next, oldest first (R84: any interleaving). -/
  agenda : List Turn
  /-- MODEL'S OWN (log 6): what the last host command returned (R120, R123). -/
  response : Option Response
  /-- MODEL'S OWN (log 6): the last byte that left on a wire, and whose (R76). -/
  wire : Option (UnitId × Byte)
  deriving DecidableEq, Repr

/-- The block has no fault state (R11, R340; 93_implementation_defined.md: `fault` is not used): no step raises a fault,
and the type has no constructor. Safe. -/
inductive Fault where
  deriving DecidableEq, Repr

/-- Why a step could be refused. -/
inductive Refusal where
  /-- Raised by a refused arm of `exec` for an instruction that has no meaning yet; no arm is refused. Safe. -/
  | notModelled (mnemonic : String)
  deriving DecidableEq, Repr

/-- The block right after reset with parameters `c` (R370): every unit at its reset value, nothing pending. -/
def State.resetWith (c : Config) : State where
  cfg := c
  fe := Fe.reset c
  xr := Xr.reset c
  xt := Xt.reset c
  crcu := Crcu.reset
  ticks := ⟨0, 0, 0⟩
  agenda := []
  response := none
  wire := none

/-- The machine right after reset, with the parameter values of the spec's own vectors (log 2). -/
def State.reset : State := State.resetWith Config.vectors

/-! Whole-component updates; their field lemmas are in `Laws/State.lean`. -/

/-- Replace FE. -/
def State.setFe (s : State) (f : Fe) : State := { s with fe := f }
/-- Replace XR. -/
def State.setXr (s : State) (x : Xr) : State := { s with xr := x }
/-- Replace XT. -/
def State.setXt (s : State) (x : Xt) : State := { s with xt := x }
/-- Replace CRCU. -/
def State.setCrcu (s : State) (u : Crcu) : State := { s with crcu := u }
/-- Replace the pending ticks. -/
def State.setTicks (s : State) (p : PendingTicks) : State := { s with ticks := p }
/-- Replace the schedule. -/
def State.setAgenda (s : State) (a : List Turn) : State := { s with agenda := a }
/-- Replace the command port's output. -/
def State.setResponse (s : State) (r : Option Response) : State := { s with response := r }
/-- Replace the wire output. -/
def State.setWire (s : State) (w : Option (UnitId × Byte)) : State := { s with wire := w }

end Sys2Proof.Machine
end

