-- ==== Sys2Proof/Machine/Operands.lean ====
section
/-! DEFINITION. Every operand form of the block: byte halves (R13), the assembly of wire fields (R103, R111), the
values a one-byte host operand may take (R120, R145, R221, R322), and the sizes a mode selects (R30, R40, R110). -/

namespace Sys2Proof.Machine

/-- `lo(x) = x[7:0]` (R13). -/
def lo (x : Half) : Byte := x.extractLsb' 0 8

/-- `hi(x) = x[15:8]` (R13). -/
def hi (x : Half) : Byte := x.extractLsb' 8 8

/-- A little-endian field: `low + 256 * high` (R103, R79). -/
def le16 (low high : Byte) : Half := high ++ low

/-- A big-endian field: `256 * first + second` (R111, R79). -/
def be16 (first second : Byte) : Half := first ++ second

/-- Byte `i` (0 least significant) of a 32-bit value (R105). -/
def byteOf (x : Word) (i : Nat) : Byte := x.extractLsb' (8 * i) 8

/-- The `unit` operand: 0 FE, 1 XR, 2 XT, anything else illegal (R120, R322). -/
def unitOf (b : Byte) : Option UnitId :=
  if b = 0 then some .fe else if b = 1 then some .xr else if b = 2 then some .xt else none

/-- The `mode` operand of XR_START: 0 CHECKSUM, 1 CRC, anything else illegal (R221). -/
def checkModeOf (b : Byte) : Option CheckMode :=
  if b = 0 then some .checksum else if b = 1 then some .crc else none

/-- The `mode` operand of CRC_INIT: 0 CCITT, 1 MODBUS, anything else illegal (R145). -/
def crcModeOf (b : Byte) : Option CrcMode :=
  if b = 0 then some .ccitt else if b = 1 then some .modbus else none

/-- The bit that stands for an XMODEM mode (D8). -/
def CheckMode.bit : CheckMode → BitVec 1
  | .checksum => 0
  | .crc => 1

/-- The bit that stands for a CRC unit mode (R47). -/
def CrcMode.bit : CrcMode → BitVec 1
  | .ccitt => 0
  | .modbus => 1

/-- The value CRC_INIT loads (R145, R47). -/
def CrcMode.init : CrcMode → Half
  | .ccitt => 0x0000
  | .modbus => 0xFFFF

/-- `FS`, the transmitter's frame size (R40). -/
def CheckMode.frameSize : CheckMode → Nat
  | .checksum => 128
  | .crc => 1024

/-- `T`, the trailer length (42_xmodem_rx.md, R295). -/
def CheckMode.trailerLen : CheckMode → Nat
  | .checksum => 1
  | .crc => 2

/-- `N`, the size of the frame XR is receiving (R30, R111). -/
def Xr.frameSize (x : Xr) : Nat := if x.size1k then 1024 else 128

end Sys2Proof.Machine
end

