-- ==== Sys2Proof/Machine/Flags.lean ====
section
/-! DEFINITION. Everything the block computes for the host to look at: the codes of the states (R21, R31, R41), of the
statuses (R123) and of the events (R341), the register views 0x00 to 0x0A (R50 to R60), and the interrupt request lines
(R345). -/

namespace Sys2Proof.Machine

/-- The encodings of R21. -/
def RxState.code : RxState → BitVec 3
  | .waitStart => 0
  | .waitType => 1
  | .lenLo => 2
  | .lenHi => 3
  | .crcLo => 4
  | .crcHi => 5
  | .payload => 6

/-- The encodings of R31. -/
def XrState.code : XrState → BitVec 4
  | .idle => 0
  | .waitHeader => 1
  | .waitSequence => 2
  | .waitSequenceComplement => 3
  | .receiveData => 4
  | .done => 5
  | .cancelled => 6
  | .failed => 7

/-- The encodings of R41. -/
def XtState.code : XtState → BitVec 4
  | .idle => 0
  | .awaitMode => 1
  | .waitFrame => 2
  | .sendHeader => 3
  | .sendSequence => 4
  | .sendSequenceComplement => 5
  | .sendData => 6
  | .sendChecksum => 7
  | .awaitAck => 8
  | .awaitEotAck => 9
  | .done => 10
  | .cancelled => 11
  | .failed => 12

/-- XR's active states are 1 to 4 (R31). -/
def XrState.active : XrState → Bool
  | .waitHeader | .waitSequence | .waitSequenceComplement | .receiveData => true
  | .idle | .done | .cancelled | .failed => false

/-- XT's active states are 1 to 9 (R41). -/
def XtState.active : XtState → Bool
  | .awaitMode | .waitFrame | .sendHeader | .sendSequence | .sendSequenceComplement | .sendData | .sendChecksum
  | .awaitAck | .awaitEotAck => true
  | .idle | .done | .cancelled | .failed => false

/-- The states in which XT waits for an acknowledgement; its timer runs only there (R44, R352). -/
def XtState.awaiting : XtState → Bool
  | .awaitAck | .awaitEotAck => true
  | _ => false

/-- The status codes of R123. -/
def Status.code : Status → Byte
  | .ok => 0
  | .busy => 1
  | .invalid => 2
  | .empty => 3

/-- The event codes of R341. -/
def Event.code : Event → Byte
  | .feTxOk _ => 0x10
  | .feTxAborted _ => 0x11
  | .feTxRetriesExhausted _ => 0x12
  | .feTxTimeout _ => 0x13
  | .xrFrame _ _ _ => 0x20
  | .xrDone _ => 0x21
  | .xrCancelled _ => 0x22
  | .xrBadMessage _ => 0x23
  | .xrTimeout _ => 0x24
  | .xtReady _ => 0x30
  | .xtAcked _ _ _ => 0x31
  | .xtDone _ => 0x32
  | .xtCancelled _ => 0x33
  | .xtRetriesExhausted _ => 0x34
  | .xtTimeout _ => 0x35

/-- A one-bit register field. -/
def flag (b : Bool) : BitVec 1 := BitVec.ofBool b

/-- TXQ_EMPTY: computed at the read (R320). -/
def Channel.txqEmpty (ch : Channel) : Bool := ch.txq.isEmpty

/-- Register 0x00 FE_MPS (R50). -/
def Fe.mpsReg (f : Fe) : Word := 0#16 ++ f.mps

/-- Register 0x01 FE_STATUS (R51), most significant field first. -/
def Fe.statusReg (f : Fe) : Word :=
  0#8 ++ f.txRetry ++ 0#6 ++ flag (f.timer != 0) ++ flag f.chan.txqEmpty ++ flag f.chan.rxOverflow
    ++ flag f.dlvValid ++ flag f.isBackToBackWrite ++ flag f.isAckAbortNeeded ++ flag f.isAckNeeded ++ f.rxState.code

/-- Register 0x03 XR_STATUS (R53). -/
def Xr.statusReg (x : Xr) : Word :=
  x.rxSeq ++ x.retry ++ x.expectedSeq ++ flag (x.timer != 0) ++ flag x.chan.rxOverflow ++ flag x.first
    ++ x.mode.bit ++ x.state.code

/-- Register 0x04 XR_COUNT (R54). -/
def Xr.countReg (x : Xr) : Word :=
  0#17 ++ flag x.chan.txqEmpty ++ flag x.size1k ++ x.tcount ++ x.count

/-- Register 0x06 XT_STATUS (R56). -/
def Xt.statusReg (x : Xt) : Word :=
  0#6 ++ flag x.chan.txqEmpty ++ flag x.tidx ++ x.retry ++ x.seq ++ flag (x.timer != 0) ++ flag x.chan.rxOverflow
    ++ flag x.short ++ x.mode.bit ++ x.state.code

/-- Register 0x07 XT_COUNT (R57). -/
def Xt.countReg (x : Xt) : Word := 0#5 ++ x.dataLen ++ 0#5 ++ x.sent

/-- Register 0x0A CRC_STATE (R60). -/
def Crcu.stateReg (u : Crcu) : Word := 0#15 ++ u.mode.bit ++ u.acc

/-- The value of register `reg` (R50 to R60); registers 0x0B to 0xFF do not exist (R60). -/
def readReg (s : State) (reg : Byte) : Option Word :=
  if reg = 0x00 then some s.fe.mpsReg
  else if reg = 0x01 then some s.fe.statusReg
  else if reg = 0x02 then some s.fe.timer
  else if reg = 0x03 then some s.xr.statusReg
  else if reg = 0x04 then some s.xr.countReg
  else if reg = 0x05 then some s.xr.timer
  else if reg = 0x06 then some s.xt.statusReg
  else if reg = 0x07 then some s.xt.countReg
  else if reg = 0x08 then some s.xt.total
  else if reg = 0x09 then some s.xt.timer
  else if reg = 0x0A then some s.crcu.stateReg
  else none

/-- IRQ_FE (R345). -/
def irqFe (s : State) : Bool := !s.fe.chan.evq.isEmpty || s.fe.dlvValid

/-- IRQ_XR (R345). -/
def irqXr (s : State) : Bool := !s.xr.chan.evq.isEmpty

/-- IRQ_XT (R345). -/
def irqXt (s : State) : Bool := !s.xt.chan.evq.isEmpty

end Sys2Proof.Machine
end

