-- ==== Sys2Proof/Machine/Ops.lean ====
section
/-! DEFINITION. The named operations every meaning is built from: the channel primitives of R10 (spec/20_memory.md R72
to R78), the packet encodings of R178, failure entry and the return from it (R348, R349), and how a rule of one unit
acts on the whole state: wholly, or not at all when it is held (R73, R78). -/

namespace Sys2Proof.Machine

/-! ## Channels -/

/-- `RxHead(u)`: the byte at the head of the receive ring, if there is one (R10, R73). -/
def Channel.rxHead (ch : Channel) : Option Byte :=
  if ch.readOffset = ch.writeOffset then none else ch.rxBuf[ch.readOffset]?

/-- Receive consume (R73). -/
def Channel.consume (c : Config) (ch : Channel) : Channel :=
  { ch with readOffset := (ch.readOffset + 1) % c.rxqCap }

/-- Receive push (R72): a byte at a full ring is dropped and the sticky flag set. -/
def Channel.rxPush (c : Config) (ch : Channel) (b : Byte) : Channel :=
  if (ch.writeOffset + 1) % c.rxqCap = ch.readOffset then { ch with rxOverflow := true }
  else { ch with rxBuf := ch.rxBuf.set ch.writeOffset b, writeOffset := (ch.writeOffset + 1) % c.rxqCap }

/-- Clear the sticky overflow flag (R74). -/
def Channel.clearOverflow (ch : Channel) : Channel := { ch with rxOverflow := false }

/-- `TxRoom(u)` (R75). -/
def Channel.txRoom (c : Config) (ch : Channel) : Nat := c.txqCap - ch.txq.length

/-- `EvRoom(u)` (R77). -/
def Channel.evRoom (c : Config) (ch : Channel) : Nat := c.evqCap - ch.evq.length

/-- `TxPush(u, bytes)` (R75). Callers check the room first. -/
def Channel.txPush (ch : Channel) (bytes : List Byte) : Channel := { ch with txq := ch.txq ++ bytes }

/-- `EvPush(u, rec)` (R77). Callers check the room first. -/
def Channel.evPush (ch : Channel) (e : Event) : Channel := { ch with evq := ch.evq ++ [e] }

/-- Transmit pop (R76): the head byte and the channel without it. -/
def Channel.txPop (ch : Channel) : Option (Byte × Channel) :=
  match ch.txq with
  | [] => none
  | b :: rest => some (b, { ch with txq := rest })

/-- Event pop (R77): the head record and the channel without it. -/
def Channel.evPop (ch : Channel) : Option (Event × Channel) :=
  match ch.evq with
  | [] => none
  | e :: rest => some (e, { ch with evq := rest })

/-- `TxPush` on FE. -/
def Fe.txPush (f : Fe) (bytes : List Byte) : Fe := { f with chan := f.chan.txPush bytes }
/-- `post` on FE (R11). -/
def Fe.post (f : Fe) (e : Event) : Fe := { f with chan := f.chan.evPush e }
/-- Receive consume on FE. -/
def Fe.consume (c : Config) (f : Fe) : Fe := { f with chan := f.chan.consume c }
/-- `TxPush` on XR. -/
def Xr.txPush (x : Xr) (bytes : List Byte) : Xr := { x with chan := x.chan.txPush bytes }
/-- `post` on XR. -/
def Xr.post (x : Xr) (e : Event) : Xr := { x with chan := x.chan.evPush e }
/-- Receive consume on XR. -/
def Xr.consume (c : Config) (x : Xr) : Xr := { x with chan := x.chan.consume c }
/-- `TxPush` on XT. -/
def Xt.txPush (x : Xt) (bytes : List Byte) : Xt := { x with chan := x.chan.txPush bytes }
/-- `post` on XT. -/
def Xt.post (x : Xt) (e : Event) : Xt := { x with chan := x.chan.evPush e }
/-- Receive consume on XT. -/
def Xt.consume (c : Config) (x : Xt) : Xt := { x with chan := x.chan.consume c }

/-! ## Packet encodings -/

/-- `sync(t)` (R178, R102). -/
def syncPacket (t : Byte) : List Byte := [0x5A, t]

/-- The four header bytes that the KFT CRC covers (R104). -/
def crcHeader (t : Byte) (len : Half) : List Byte := [0x5A, t, lo len, hi len]

/-- The CRC of a KFT data packet (R104, R175). -/
def packetCrc (t : Byte) (len : Half) (payload : List Byte) : Half := crc16Ccitt 0 (crcHeader t len ++ payload)

/-- `frame(t, p)` (R178, R103). -/
def framePacket (t : Byte) (p : List Byte) : List Byte :=
  let len : Half := BitVec.ofNat 16 p.length
  let c := packetCrc t len p
  [0x5A, t, lo len, hi len, lo c, hi c] ++ p

/-- The first eight bytes of a PING-RESPONSE (R105, R178). -/
def pingBody (c : Config) : List Byte :=
  [0x5A, 0xA7, byteOf c.kftVersion 0, byteOf c.kftVersion 1, byteOf c.kftVersion 2, byteOf c.kftVersion 3,
   lo c.kftPingOptions, hi c.kftPingOptions]

/-- `ping_response()` (R178, R105). -/
def pingResponse (c : Config) : List Byte :=
  let q := pingBody c
  let crc := crc16Ccitt 0 q
  q ++ [lo crc, hi crc]

/-- The emergency cancel, three CAN bytes (R294). -/
def canThree : List Byte := [0x18, 0x18, 0x18]

/-! ## Failure entry and the return from it -/

/-- Failure entry of XR (R348): the terminal state, the timer disarmed, the event posted; nothing is sent or saved. -/
def Xr.failureEntry (x : Xr) (terminal : XrState) (e : Event) : Xr :=
  { x with state := terminal, timer := 0, chan := x.chan.evPush e }

/-- Failure entry of XT (R348): as XR's, after queueing `cans` (the emergency cancel, where the rule says so). -/
def Xt.failureEntry (x : Xt) (terminal : XtState) (cans : List Byte) (e : Event) : Xt :=
  { x with state := terminal, timer := 0, chan := (x.chan.txPush cans).evPush e }

/-- The return of XR (R349): what XR_START re-initialises before it asks for a mode (R221). -/
def Xr.restart (c : Config) (x : Xr) (m : CheckMode) : Xr :=
  { x with
    mode := m, first := true, expectedSeq := 0x01, retry := 0, rxSeq := 0, size1k := false, count := 0, tcount := 0,
    state := .waitHeader, timer := c.xrTimeout }

/-- The return of XT (R349): what XT_START re-initialises (R271). -/
def Xt.restart (x : Xt) : Xt :=
  { x with
    mode := .checksum, seq := 0x01, retry := 0, total := 0, dataLen := 0, short := false, sent := 0, tidx := false,
    timer := 0, state := .awaitMode }

/-! ## Rules of one unit on the whole state -/

/-- A host command ends: its status and its result are what the port returns (R120, R123). -/
def State.respond (s : State) (st : Status) (r : Result) : State := s.setResponse (some ⟨st, r⟩)

/-- XR's timer settle, the last action of every XR byte step (R224). -/
def Xr.settle (c : Config) (x : Xr) : Xr :=
  { x with timer := if x.state.active then c.xrTimeout else 0 }

/-- One FE byte step: `rule` on the head byte, then the consume; nothing at all without a head byte or when the rule is
held (R73, R78). -/
def State.feByte (s : State) (rule : Config → Fe → Byte → Option Fe) : State :=
  match s.fe.chan.rxHead with
  | none => s
  | some b => match rule s.cfg s.fe b with
    | none => s
    | some f => s.setFe (f.consume s.cfg)

/-- One XR byte step, which ends with the timer settle and the consume (R220, R224, R73). -/
def State.xrByte (s : State) (rule : Config → Xr → Byte → Option Xr) : State :=
  match s.xr.chan.rxHead with
  | none => s
  | some b => match rule s.cfg s.xr b with
    | none => s
    | some x => s.setXr ((x.settle s.cfg).consume s.cfg)

/-- One XT byte step (R270, R73). -/
def State.xtByte (s : State) (rule : Config → Xt → Byte → Option Xt) : State :=
  match s.xt.chan.rxHead with
  | none => s
  | some b => match rule s.cfg s.xt b with
    | none => s
    | some x => s.setXt (x.consume s.cfg)

/-- The byte step of a KFT token: enabled when FE is in WAIT_TYPE with the token's type byte `t` at the head (R130,
R160); otherwise not taken (U12; log 11). -/
def State.feToken (s : State) (t : Byte) (rule : Config → Fe → Option Fe) : State :=
  if s.fe.rxState = .waitType ∧ s.fe.chan.rxHead = some t then s.feByte (fun c f _ => rule c f) else s

/-- The byte step of an XR header token: enabled in WAIT_HEADER with byte `t` at the head (R130, R226; log 11). -/
def State.xrToken (s : State) (t : Byte) (rule : Config → Xr → Option Xr) : State :=
  if s.xr.state = .waitHeader ∧ s.xr.chan.rxHead = some t then s.xrByte (fun c x _ => rule c x) else s

/-- The byte step of an XT token: enabled in the states `here` holds of, with byte `t` at the head (R130; log 11). -/
def State.xtToken (s : State) (here : XtState → Bool) (t : Byte) (rule : Config → Xt → Option Xt) : State :=
  if here s.xt.state = true ∧ s.xt.chan.rxHead = some t then s.xtByte (fun c x _ => rule c x) else s

end Sys2Proof.Machine
end

