-- ==== Sys2Proof/Machine/CrcUnit.lean ====
section
/-! DEFINITION. The commands of the CRC unit (spec/40_crc.md R145, R146). -/

namespace Sys2Proof.Machine

/-- CRC_INIT (R145). -/
def execCrcInit (mode : Byte) (s : State) : Host.Outcome State Fault Refusal :=
  match crcModeOf mode with
  | none => .next (s.respond .invalid .none)
  | some m => .next ((s.setCrcu ⟨m.init, m⟩).respond .ok .none)

/-- One byte into the running value (R146). -/
def Crcu.feed (u : Crcu) (b : Byte) : Crcu :=
  match u.mode with
  | .ccitt => { u with acc := stepCcitt u.acc b }
  | .modbus => { u with acc := stepModbus u.acc b }

/-- CRC_FEED (R146). -/
def execCrcFeed (byte : Byte) (s : State) : Host.Outcome State Fault Refusal :=
  .next ((s.setCrcu (s.crcu.feed byte)).respond .ok .none)

end Sys2Proof.Machine
end

