-- ==== Sys2Proof/Machine/FeHost.lean ====
section
/-! DEFINITION. The transmit side of FE, its host commands and its tick (spec/41_kft_framing.md R180 to R187). -/

namespace Sys2Proof.Machine

/-- FE_SEND (R180). -/
def execFeSend (type : Byte) (len : Half) (bytes : List Byte) (s : State) : Host.Outcome State Fault Refusal :=
  let p := framePacket type bytes
  if (type ≠ 0xA4 ∧ type ≠ 0xA5) ∨ s.fe.mps < len ∨ bytes.length ≠ len.toNat then .next (s.respond .invalid .none)
  else if s.fe.isBackToBackWrite then .next (s.respond .busy .none)
  else if s.fe.chan.txRoom s.cfg < p.length then .next (s.respond .busy .none)
  else
    .next ((s.setFe { s.fe.txPush p with
      txCopy := p, txCopyType := type, txRetry := 0, isBackToBackWrite := true, timer := s.cfg.feAckTimeout }).respond
        .ok .none)

/-- FE_TAKE (R185). -/
def execFeTake (s : State) : Host.Outcome State Fault Refusal :=
  if s.fe.dlvValid then
    .next ((s.setFe { s.fe with dlvValid := false }).respond .ok
      (.packet s.fe.dlvType s.fe.dlvLen (s.fe.dlvPayload.take s.fe.dlvLen.toNat)))
  else .next (s.respond .empty .none)

/-- FE_ABORT_DATA_PHASE (R186). -/
def execFeAbortDataPhase (s : State) : Host.Outcome State Fault Refusal :=
  .next ((s.setFe { s.fe with isAckAbortNeeded := true }).respond .ok .none)

/-- FE_CLR_OVF (R187). -/
def execFeClrOvf (s : State) : Host.Outcome State Fault Refusal :=
  .next ((s.setFe { s.fe with chan := s.fe.chan.clearOverflow }).respond .ok .none)

/-- FE tick (R184): `none` when the expiry is held. -/
def Fe.tick (c : Config) (f : Fe) : Option Fe :=
  if f.timer = 0 then some f
  else if f.timer ≠ 1 then some { f with timer := f.timer - 1 }
  else if 1 ≤ f.chan.evRoom c then
    some ({ f with timer := 0, isBackToBackWrite := false, txRetry := 0 }.post (.feTxTimeout f.txCopyType))
  else none

end Sys2Proof.Machine
end

