-- ==== Sys2Proof/Machine/FeRx.lean ====
section
/-! DEFINITION. The receive side of FE (spec/41_kft_framing.md R160 to R179): the byte rules of each parser state, the
validation of a packet, and the meanings of the seven KFT tokens. A rule answers `none` when it is held (R78, R188). -/

namespace Sys2Proof.Machine

/-! ## Validation and replies -/

/-- Queue NAK and scan for the next packet; held when two bytes do not fit (R171, R175). -/
def Fe.nak (c : Config) (f : Fe) : Option Fe :=
  if 2 ≤ f.chan.txRoom c then some { f.txPush (syncPacket 0xA2) with rxState := .waitStart } else none

/-- Write the received packet into the delivery slot (R176, R177). -/
def Fe.deliver (f : Fe) (type : Byte) : Fe :=
  { f with
    dlvValid := true, dlvType := type, dlvLen := f.pktLen,
    dlvPayload := f.pktBuf.take f.pktLen.toNat ++ f.dlvPayload.drop f.pktLen.toNat }

/-- Queue a reply while the decision is pending: `is_ack_needed` is set and cleared in the one step (R22). -/
def Fe.reply (f : Fe) (t : Byte) : Fe :=
  { { f with isAckNeeded := true }.txPush (syncPacket t) with isAckNeeded := false }

/-- Good COMMAND packet (R176). -/
def Fe.acceptCommand (c : Config) (f : Fe) : Option Fe :=
  if 2 ≤ f.chan.txRoom c ∧ f.dlvValid = false then
    some { ({ f with isAckAbortNeeded := false }.reply 0xA1).deliver 0xA4 with rxState := .waitStart }
  else none

/-- Good DATA packet (R177). -/
def Fe.acceptData (c : Config) (f : Fe) : Option Fe :=
  if f.isAckAbortNeeded then
    if 2 ≤ f.chan.txRoom c then some { f.reply 0xA3 with isAckAbortNeeded := false, rxState := .waitStart } else none
  else if 2 ≤ f.chan.txRoom c ∧ f.dlvValid = false then
    some { (f.reply 0xA1).deliver 0xA5 with rxState := .waitStart }
  else none

/-- Validation, inside the step that consumes the packet's last byte (R175). -/
def Fe.validate (c : Config) (f : Fe) : Option Fe :=
  if packetCrc f.pktType f.pktLen (f.pktBuf.take f.pktLen.toNat) ≠ f.pktCrc then f.nak c
  else if f.pktType = 0xA4 then f.acceptCommand c
  else f.acceptData c

/-! ## Byte rules -/

/-- WAIT_START byte (R161). -/
def Fe.waitStartByte (f : Fe) (b : Byte) : Fe := if b = 0x5A then { f with rxState := .waitType } else f

/-- LEN_LO byte (R170). -/
def Fe.lenLoByte (f : Fe) (b : Byte) : Fe := { f with pktLen := le16 b 0, rxState := .lenHi }

/-- LEN_HI byte, with the length check (R171). -/
def Fe.lenHiByte (c : Config) (f : Fe) (b : Byte) : Option Fe :=
  let g := { f with pktLen := le16 (lo f.pktLen) b }
  if g.mps < g.pktLen then g.nak c else some { g with rxState := .crcLo }

/-- CRC_LO byte (R172). -/
def Fe.crcLoByte (f : Fe) (b : Byte) : Fe := { f with pktCrc := le16 b 0, rxState := .crcHi }

/-- CRC_HI byte (R173): a packet without payload is validated in this step. -/
def Fe.crcHiByte (c : Config) (f : Fe) (b : Byte) : Option Fe :=
  let g := { f with pktCrc := le16 (lo f.pktCrc) b }
  if g.pktLen = 0 then g.validate c else some { g with rxState := .payload }

/-- PAYLOAD byte (R174): the last one validates the packet in this step. -/
def Fe.payloadByte (c : Config) (f : Fe) (b : Byte) : Option Fe :=
  let g := { f with pktBuf := f.pktBuf.set f.pktCount.toNat b, pktCount := f.pktCount + 1 }
  if g.pktCount = g.pktLen then g.validate c else some g

/-- The byte rule of every parser state in which no value is a token (R160). WAIT_TYPE is not one: there the decoder
reads the byte, and `Fe.otherTypeByte` is the rule of the bytes it rejects. -/
def Fe.dataByte (c : Config) (f : Fe) (b : Byte) : Option Fe :=
  match f.rxState with
  | .waitStart => some (f.waitStartByte b)
  | .waitType => none
  | .lenLo => some (f.lenLoByte b)
  | .lenHi => f.lenHiByte c b
  | .crcLo => some (f.crcLoByte b)
  | .crcHi => f.crcHiByte c b
  | .payload => f.payloadByte c b

/-- WAIT_TYPE, the last two rows of R162: 0x5A is a new start byte, any other unknown byte is discarded. -/
def Fe.otherTypeByte (f : Fe) (b : Byte) : Fe := if b = 0x5A then f else { f with rxState := .waitStart }

/-! ## The KFT tokens -/

/-- The exchange of the packet FE sent ends with an event; held when the event does not fit (R163, R164, R165). -/
def Fe.endExchange (c : Config) (f : Fe) (e : Event) : Option Fe :=
  if 1 ≤ f.chan.evRoom c then
    some ({ f with isBackToBackWrite := false, timer := 0, txRetry := 0 }.post e)
  else none

/-- KFT_ACK (R163). -/
def Fe.ackRule (c : Config) (f : Fe) : Option Fe :=
  let g := { f with rxState := .waitStart }
  if g.isBackToBackWrite then g.endExchange c (.feTxOk g.txCopyType) else some g

/-- `min(FE.tx_retry + 1, 255)` (R164). -/
def satInc (r : Byte) : Byte := if r = 255 then 255 else r + 1

/-- KFT_NAK (R164): resend the same bytes, or give up when the budget is spent. -/
def Fe.nakRule (c : Config) (f : Fe) : Option Fe :=
  let g := { f with rxState := .waitStart }
  if g.isBackToBackWrite then
    if c.feTxMaxRetries = some g.txRetry then g.endExchange c (.feTxRetriesExhausted g.txCopyType)
    else if g.txCopy.length ≤ g.chan.txRoom c then
      some { g.txPush g.txCopy with txRetry := satInc g.txRetry, timer := c.feAckTimeout }
    else none
  else some g

/-- KFT_ACK_ABORT (R165). -/
def Fe.ackAbortRule (c : Config) (f : Fe) : Option Fe :=
  let g := { f with rxState := .waitStart }
  if g.isBackToBackWrite then g.endExchange c (.feTxAborted g.txCopyType) else some g

/-- A COMMAND or DATA type byte opens a packet (R166, R167). -/
def Fe.openPacket (type : Byte) (f : Fe) : Fe :=
  { f with pktType := type, pktLen := 0, pktCrc := 0, pktCount := 0, rxState := .lenLo }

/-- KFT_PING (R168): held when ten bytes do not fit. -/
def Fe.pingRule (c : Config) (f : Fe) : Option Fe :=
  if 10 ≤ f.chan.txRoom c then some { f.txPush (pingResponse c) with rxState := .waitStart } else none

/-- KFT_ACK received (R163). -/
def execKftAck (s : State) : Host.Outcome State Fault Refusal := .next (s.feToken 0xA1 Fe.ackRule)

/-- KFT_NAK received (R164). -/
def execKftNak (s : State) : Host.Outcome State Fault Refusal := .next (s.feToken 0xA2 Fe.nakRule)

/-- KFT_ACK_ABORT received (R165). -/
def execKftAckAbort (s : State) : Host.Outcome State Fault Refusal := .next (s.feToken 0xA3 Fe.ackAbortRule)

/-- KFT_COMMAND type byte (R166). -/
def execKftCommand (s : State) : Host.Outcome State Fault Refusal :=
  .next (s.feToken 0xA4 fun _ f => some (f.openPacket 0xA4))

/-- KFT_DATA type byte (R167). -/
def execKftData (s : State) : Host.Outcome State Fault Refusal :=
  .next (s.feToken 0xA5 fun _ f => some (f.openPacket 0xA5))

/-- KFT_PING received (R168). -/
def execKftPing (s : State) : Host.Outcome State Fault Refusal := .next (s.feToken 0xA6 Fe.pingRule)

/-- KFT_PING_RESPONSE type byte: discarded, no reply (R169). -/
def execKftPingResponse (s : State) : Host.Outcome State Fault Refusal :=
  .next (s.feToken 0xA7 fun _ f => some { f with rxState := .waitStart })

end Sys2Proof.Machine
end

