-- ==== Sys2Proof/Machine/HostCmd.lean ====
section
/-! DEFINITION. The three generic host commands (spec/44_host_interface.md R320 to R322). A command that returns BUSY,
INVALID or EMPTY changes nothing but the port's answer (R323). -/

namespace Sys2Proof.Machine

/-- REG_READ (R320). -/
def execRegRead (reg : Byte) (s : State) : Host.Outcome State Fault Refusal :=
  match readReg s reg with
  | none => .next (s.respond .invalid .none)
  | some v => .next (s.respond .ok (.value v))

/-- A value REG_WRITE accepts for FE_MPS: `v[31:16] = 0` and `1 <= v[15:0] <= P_MPS_MAX` (R321, R50). -/
def mpsLegal (c : Config) (value : Word) : Bool := value.toNat ≤ 0xFFFF && 1 ≤ value.toNat && value.toNat ≤ c.mpsMax

/-- REG_WRITE (R321): the operand checks come before the state check. -/
def execRegWrite (reg : Byte) (value : Word) (s : State) : Host.Outcome State Fault Refusal :=
  if reg ≠ 0x00 then .next (s.respond .invalid .none)
  else if mpsLegal s.cfg value = false then .next (s.respond .invalid .none)
  else if s.fe.rxState ≠ .waitStart then .next (s.respond .busy .none)
  else .next ((s.setFe { s.fe with mps := value.setWidth 16 }).respond .ok .none)

/-- The channel of unit `u`. -/
def State.chanOf (s : State) : UnitId → Channel
  | .fe => s.fe.chan
  | .xr => s.xr.chan
  | .xt => s.xt.chan

/-- Replace the channel of unit `u`. -/
def State.setChan (s : State) (u : UnitId) (ch : Channel) : State :=
  match u with
  | .fe => s.setFe { s.fe with chan := ch }
  | .xr => s.setXr { s.xr with chan := ch }
  | .xt => s.setXt { s.xt with chan := ch }

/-- EV_POP (R322). -/
def execEvPop (unit : Byte) (s : State) : Host.Outcome State Fault Refusal :=
  match unitOf unit with
  | none => .next (s.respond .invalid .none)
  | some u => match (s.chanOf u).evPop with
    | none => .next (s.respond .empty .none)
    | some (e, ch) => .next ((s.setChan u ch).respond .ok (.record e.code e))

end Sys2Proof.Machine
end

