-- ==== Sys2Proof/Machine/XmodemRx.lean ====
section
/-! DEFINITION. The XMODEM receiver XR (spec/42_xmodem_rx.md R220 to R241): its host commands, the rules of its bytes,
validation, the failure path, and its tick. A rule answers `none` when it is held. Every byte step ends with the timer
settle (R224), which `State.xrByte` adds. -/

namespace Sys2Proof.Machine

/-! ## Host commands -/

/-- XR_START (R221). -/
def execXrStart (mode : Byte) (s : State) : Host.Outcome State Fault Refusal :=
  match checkModeOf mode with
  | none => .next (s.respond .invalid .none)
  | some m =>
    if s.xr.state.active then .next (s.respond .busy .none)
    else if s.xr.chan.txRoom s.cfg < 1 then .next (s.respond .busy .none)
    else
      let request : Byte := match m with
        | .crc => 0x43
        | .checksum => 0x15
      .next ((s.setXr ((s.xr.restart s.cfg m).txPush [request])).respond .ok .none)

/-- XR_CANCEL (R222). -/
def execXrCancel (s : State) : Host.Outcome State Fault Refusal :=
  if s.xr.state.active = false then .next (s.respond .invalid .none)
  else if s.xr.chan.txRoom s.cfg < 3 then .next (s.respond .busy .none)
  else .next ((s.setXr { s.xr.txPush canThree with state := .cancelled, timer := 0 }).respond .ok .none)

/-- XR_CLR_OVF (R223). -/
def execXrClrOvf (s : State) : Host.Outcome State Fault Refusal :=
  .next ((s.setXr { s.xr with chan := s.xr.chan.clearOverflow }).respond .ok .none)

/-! ## Rules shared by several bytes -/

/-- A header opens a frame (R227, R228). -/
def Xr.openFrame (large : Bool) (x : Xr) : Xr :=
  { x with size1k := large, count := 0, tcount := 0, state := .waitSequence }

/-- EOT: acknowledge, report, DONE (R229). -/
def Xr.eotRule (c : Config) (x : Xr) : Option Xr :=
  if 1 ≤ x.chan.txRoom c ∧ 1 ≤ x.chan.evRoom c then
    some { (x.txPush [0x06]).post (.xrDone (x.expectedSeq - 1)) with state := .done }
  else none

/-- CAN: cancelled by the sender (R230). -/
def Xr.canRule (c : Config) (x : Xr) : Option Xr :=
  if 1 ≤ x.chan.evRoom c then some (x.failureEntry .cancelled (.xrCancelled x.expectedSeq)) else none

/-- `retry_byte()` (R240). -/
def Xr.retryByte (x : Xr) : Byte := if x.first = true ∧ x.mode = .crc then 0x43 else 0x15

/-- The failure path (R238). -/
def Xr.failurePath (c : Config) (x : Xr) : Option Xr :=
  if x.retry = c.xrMaxRetries then
    if 1 ≤ x.chan.evRoom c then some (x.failureEntry .failed (.xrBadMessage x.expectedSeq)) else none
  else if 1 ≤ x.chan.txRoom c then
    some { x.txPush [x.retryByte] with retry := x.retry + 1, state := .waitHeader }
  else none

/-- Frame accepted (R237). -/
def Xr.accept (c : Config) (x : Xr) : Option Xr :=
  if 1 ≤ x.chan.txRoom c ∧ 1 ≤ x.chan.evRoom c then
    some { (x.post (.xrFrame x.rxSeq (BitVec.ofNat 16 x.frameSize) (x.buf.take x.frameSize))).txPush [0x06] with
      expectedSeq := x.expectedSeq + 1, retry := 0, first := false, state := .waitHeader }
  else none

/-- The check value is right (R236). -/
def Xr.checkOk (x : Xr) : Bool :=
  match x.mode with
  | .checksum => x.trailer0 == sum8 (x.buf.take x.frameSize)
  | .crc => be16 x.trailer0 x.trailer1 == crc16Ccitt 0 (x.buf.take x.frameSize)

/-- Validation (R236). -/
def Xr.validate (c : Config) (x : Xr) : Option Xr :=
  let y := { x with count := 0, tcount := 0 }
  if y.rxSeq = y.expectedSeq ∧ y.checkOk = true then y.accept c else y.failurePath c

/-! ## Byte rules -/

/-- WAIT_SEQUENCE byte (R231). -/
def Xr.sequenceByte (x : Xr) (b : Byte) : Xr := { x with rxSeq := b, state := .waitSequenceComplement }

/-- ERROR classification of a complement byte that did not match (R233). -/
def Xr.errorByte (c : Config) (x : Xr) (b : Byte) : Option Xr :=
  if b = 0x18 then x.canRule c
  else if b = 0x04 then x.eotRule c
  else if b = 0x06 then some { x with state := .waitHeader }
  else x.failurePath c

/-- WAIT_SEQUENCE_COMPLEMENT byte (R232). -/
def Xr.complementByte (c : Config) (x : Xr) (b : Byte) : Option Xr :=
  if b = ~~~x.rxSeq then some { x with count := 0, tcount := 0, state := .receiveData } else x.errorByte c b

/-- Store a trailer byte (R235). -/
def Xr.storeTrailer (x : Xr) (b : Byte) : Xr :=
  if x.tcount = 0 then { x with trailer0 := b } else { x with trailer1 := b }

/-- RECEIVE_DATA byte: data while `count < N` (R234), then the trailer (R235). -/
def Xr.receiveByte (c : Config) (x : Xr) (b : Byte) : Option Xr :=
  if x.count.toNat < x.frameSize then some { x with buf := x.buf.set x.count.toNat b, count := x.count + 1 }
  else
    let y := { x.storeTrailer b with tcount := x.tcount + 1 }
    if y.tcount.toNat = y.mode.trailerLen then y.validate c else some y

/-- The byte rule of every XR state in which no value is a token (R220). WAIT_HEADER is not one: there the decoder reads
the byte, and a byte it rejects is noise, consumed and discarded (R226). -/
def Xr.dataByte (c : Config) (x : Xr) (b : Byte) : Option Xr :=
  match x.state with
  | .idle | .done | .cancelled | .failed => some x
  | .waitHeader => none
  | .waitSequence => some (x.sequenceByte b)
  | .waitSequenceComplement => x.complementByte c b
  | .receiveData => x.receiveByte c b

/-! ## The header tokens -/

/-- SOH header (R227). -/
def execXrSoh (s : State) : Host.Outcome State Fault Refusal :=
  .next (s.xrToken 0x01 fun _ x => some (x.openFrame false))

/-- STX header (R228). -/
def execXrStx (s : State) : Host.Outcome State Fault Refusal :=
  .next (s.xrToken 0x02 fun _ x => some (x.openFrame true))

/-- EOT in WAIT_HEADER (R229). -/
def execXrEot (s : State) : Host.Outcome State Fault Refusal := .next (s.xrToken 0x04 Xr.eotRule)

/-- CAN in WAIT_HEADER (R230). -/
def execXrCan (s : State) : Host.Outcome State Fault Refusal := .next (s.xrToken 0x18 Xr.canRule)

/-! ## Tick -/

/-- XR tick (R239): `none` when the expiry is held. -/
def Xr.tick (c : Config) (x : Xr) : Option Xr :=
  if x.timer = 0 then some x
  else if x.timer ≠ 1 then some { x with timer := x.timer - 1 }
  else if 1 ≤ x.chan.evRoom c then some (x.failureEntry .failed (.xrTimeout x.expectedSeq))
  else none

end Sys2Proof.Machine
end

