-- ==== Sys2Proof/Machine/XmodemTx.lean ====
section
/-! DEFINITION. The XMODEM transmitter XT (spec/43_xmodem_tx.md R270 to R295): its host commands, the rules of its bytes,
the emission steps, and its tick. A rule answers `none` when it is held, or when an emission is not enabled. -/

namespace Sys2Proof.Machine

/-! ## Host commands -/

/-- XT_START (R271). -/
def execXtStart (s : State) : Host.Outcome State Fault Refusal :=
  if s.xt.state.active then .next (s.respond .busy .none)
  else .next ((s.setXt s.xt.restart).respond .ok .none)

/-- XT_CANCEL (R272). -/
def execXtCancel (s : State) : Host.Outcome State Fault Refusal :=
  if s.xt.state.active = false then .next (s.respond .invalid .none)
  else if s.xt.chan.txRoom s.cfg < 3 then .next (s.respond .busy .none)
  else .next ((s.setXt { s.xt.txPush canThree with state := .cancelled, timer := 0 }).respond .ok .none)

/-- XT_CLR_OVF (R273). -/
def execXtClrOvf (s : State) : Host.Outcome State Fault Refusal :=
  .next ((s.setXt { s.xt with chan := s.xt.chan.clearOverflow }).respond .ok .none)

/-- The frame buffer of `n` caller bytes: SUB padding up to the frame size, the rest as it was (R280). -/
def Xt.loadBuf (x : Xt) (bytes : List Byte) : List Byte :=
  bytes ++ List.replicate (x.mode.frameSize - bytes.length) 0x1A ++ x.buf.drop x.mode.frameSize

/-- XT_SEND_FRAME (R280). -/
def execXtSendFrame (n : Half) (bytes : List Byte) (s : State) : Host.Outcome State Fault Refusal :=
  if s.xt.state.active = false then .next (s.respond .invalid .none)
  else if s.xt.state ≠ .waitFrame then .next (s.respond .busy .none)
  else if n.toNat < 1 ∨ s.xt.mode.frameSize < n.toNat ∨ bytes.length ≠ n.toNat then .next (s.respond .invalid .none)
  else
    .next ((s.setXt { s.xt with
      buf := s.xt.loadBuf bytes, dataLen := n.setWidth 11, short := decide (n.toNat < s.xt.mode.frameSize),
      sent := 0, tidx := false, retry := 0, state := .sendHeader }).respond .ok .none)

/-- XT_OVER (R291). -/
def execXtOver (s : State) : Host.Outcome State Fault Refusal :=
  if s.xt.state.active = false then .next (s.respond .invalid .none)
  else if s.xt.state ≠ .waitFrame then .next (s.respond .busy .none)
  else if s.xt.chan.txRoom s.cfg < 1 then .next (s.respond .busy .none)
  else
    .next ((s.setXt { s.xt.txPush [0x04] with
      retry := 0, state := .awaitEotAck, timer := s.cfg.xtAckTimeout }).respond .ok .none)

/-! ## Byte rules -/

/-- The receiver chose the mode (R276, R277). -/
def Xt.selectMode (m : CheckMode) (c : Config) (x : Xt) : Option Xt :=
  if 1 ≤ x.chan.evRoom c then
    some { x.post (.xtReady (m.bit.setWidth 8)) with mode := m, state := .waitFrame }
  else none

/-- CAN in an active state (R278). -/
def Xt.canRule (c : Config) (x : Xt) : Option Xt :=
  if 1 ≤ x.chan.evRoom c then some (x.failureEntry .cancelled [] (.xtCancelled x.seq)) else none

/-- The retry budget is spent: emergency cancel and report (R290, R292). -/
def Xt.exhausted (c : Config) (x : Xt) : Option Xt :=
  if 3 ≤ x.chan.txRoom c ∧ 1 ≤ x.chan.evRoom c then
    some (x.failureEntry .failed canThree (.xtRetriesExhausted x.seq))
  else none

/-- ACK in AWAIT_ACK: frame acknowledged (R289). -/
def Xt.frameAcked (c : Config) (x : Xt) : Option Xt :=
  if 1 ≤ x.chan.evRoom c ∧ (x.short = false ∨ 1 ≤ x.chan.txRoom c) then
    let y := { x.post (.xtAcked x.seq (x.dataLen.setWidth 16) ((flag x.short).setWidth 8)) with
      total := x.total + x.dataLen.setWidth 32, seq := x.seq + 1, retry := 0 }
    if x.short then some { y.txPush [0x04] with state := .awaitEotAck, timer := c.xtAckTimeout }
    else some { y with state := .waitFrame, timer := 0 }
  else none

/-- ACK in AWAIT_EOT_ACK: the transfer is complete (R292). -/
def Xt.eotAcked (c : Config) (x : Xt) : Option Xt :=
  if 1 ≤ x.chan.evRoom c then some { x.post (.xtDone x.total) with state := .done, timer := 0 } else none

/-- ACK (R288, R289, R292). -/
def Xt.ackRule (c : Config) (x : Xt) : Option Xt :=
  if x.state = .awaitAck then x.frameAcked c else x.eotAcked c

/-- NAK in AWAIT_ACK: the same frame again, or give up (R290). -/
def Xt.frameNaked (c : Config) (x : Xt) : Option Xt :=
  if x.retry = c.xtMaxRetries then x.exhausted c
  else some { x with retry := x.retry + 1, sent := 0, tidx := false, state := .sendHeader, timer := 0 }

/-- NAK in AWAIT_EOT_ACK: EOT again, or give up (R292). -/
def Xt.eotNaked (c : Config) (x : Xt) : Option Xt :=
  if x.retry = c.xtMaxRetries then x.exhausted c
  else if 1 ≤ x.chan.txRoom c then
    some { x.txPush [0x04] with retry := x.retry + 1, timer := c.xtAckTimeout }
  else none

/-- NAK (R288, R290, R292). -/
def Xt.nakRule (c : Config) (x : Xt) : Option Xt :=
  if x.state = .awaitAck then x.frameNaked c else x.eotNaked c

/-- A byte XT's state does not act on: consumed and discarded; while awaiting an acknowledgement the timer is reloaded
(R274, R275, R279, R287, R288, R292). -/
def Xt.discardByte (c : Config) (x : Xt) : Xt :=
  if x.state.awaiting then { x with timer := c.xtAckTimeout } else x

/-! ## The tokens -/

/-- 'C' in AWAIT_MODE (R276). -/
def execXtModeCrc (s : State) : Host.Outcome State Fault Refusal :=
  .next (s.xtToken (· == .awaitMode) 0x43 (Xt.selectMode .crc))

/-- NAK in AWAIT_MODE (R277). -/
def execXtModeChecksum (s : State) : Host.Outcome State Fault Refusal :=
  .next (s.xtToken (· == .awaitMode) 0x15 (Xt.selectMode .checksum))

/-- ACK in AWAIT_ACK or AWAIT_EOT_ACK (R289, R292). -/
def execXtAck (s : State) : Host.Outcome State Fault Refusal := .next (s.xtToken XtState.awaiting 0x06 Xt.ackRule)

/-- NAK in AWAIT_ACK or AWAIT_EOT_ACK (R290, R292). -/
def execXtNak (s : State) : Host.Outcome State Fault Refusal := .next (s.xtToken XtState.awaiting 0x15 Xt.nakRule)

/-- CAN in any active state (R278). -/
def execXtCan (s : State) : Host.Outcome State Fault Refusal := .next (s.xtToken XtState.active 0x18 Xt.canRule)

/-! ## Emission -/

/-- SEND_HEADER emission (R282). -/
def Xt.emitHeader (x : Xt) : Xt :=
  { x.txPush [match x.mode with
      | .crc => 0x02
      | .checksum => 0x01] with state := .sendSequence }

/-- SEND_SEQUENCE emission (R283). -/
def Xt.emitSequence (x : Xt) : Xt := { x.txPush [x.seq] with state := .sendSequenceComplement }

/-- SEND_SEQUENCE_COMPLEMENT emission (R284). -/
def Xt.emitComplement (x : Xt) : Xt := { x.txPush [~~~x.seq] with sent := 0, state := .sendData }

/-- SEND_DATA emission (R285). Nothing is emitted at an index beyond the buffer, which no run reaches (R44; log 16). -/
def Xt.emitData (x : Xt) : Option Xt :=
  match x.buf[x.sent.toNat]? with
  | none => none
  | some b =>
    let y := { x.txPush [b] with sent := x.sent + 1 }
    some (if y.sent.toNat = y.mode.frameSize then { y with tidx := false, state := .sendChecksum } else y)

/-- The trailer is out: wait for the acknowledgement (R286). -/
def Xt.frameSent (c : Config) (x : Xt) : Xt := { x with state := .awaitAck, timer := c.xtAckTimeout }

/-- SEND_CHECKSUM emission (R286). -/
def Xt.emitChecksum (c : Config) (x : Xt) : Xt :=
  let d := x.buf.take x.mode.frameSize
  match x.mode with
  | .checksum => (x.txPush [sum8 d]).frameSent c
  | .crc =>
    let crc := crc16Ccitt 0 d
    if x.tidx = false then { x.txPush [hi crc] with tidx := true }
    else { x.txPush [lo crc] with tidx := false }.frameSent c

/-- Emission step (R270, R281): not enabled outside the SEND states or without room for one byte. -/
def Xt.emit (c : Config) (x : Xt) : Option Xt :=
  if x.chan.txRoom c < 1 then none
  else match x.state with
    | .sendHeader => some x.emitHeader
    | .sendSequence => some x.emitSequence
    | .sendSequenceComplement => some x.emitComplement
    | .sendData => x.emitData
    | .sendChecksum => some (x.emitChecksum c)
    | .idle | .awaitMode | .waitFrame | .awaitAck | .awaitEotAck | .done | .cancelled | .failed => none

/-! ## Tick -/

/-- XT tick (R293): `none` when the expiry is held. -/
def Xt.tick (c : Config) (x : Xt) : Option Xt :=
  if x.timer = 0 then some x
  else if x.timer ≠ 1 then some { x with timer := x.timer - 1 }
  else if 3 ≤ x.chan.txRoom c ∧ 1 ≤ x.chan.evRoom c then
    some (x.failureEntry .failed canThree (.xtTimeout x.seq))
  else none

end Sys2Proof.Machine
end

