-- ==== Sys2Proof/Machine/Dispatch.lean ====
section
/-! DEFINITION. One arm per instruction, in the order of the opcode table. -/

namespace Sys2Proof.Machine

def exec (i : Instr) (s : State) : Host.Outcome State Fault Refusal :=
  match i with
  | .regRead reg => Sys2Proof.Machine.execRegRead reg s
  | .regWrite reg value => Sys2Proof.Machine.execRegWrite reg value s
  | .evPop unit => Sys2Proof.Machine.execEvPop unit s
  | .feSend type len bytes => Sys2Proof.Machine.execFeSend type len bytes s
  | .feTake => Sys2Proof.Machine.execFeTake s
  | .feAbortDataPhase => Sys2Proof.Machine.execFeAbortDataPhase s
  | .feClrOvf => Sys2Proof.Machine.execFeClrOvf s
  | .xrStart mode => Sys2Proof.Machine.execXrStart mode s
  | .xrCancel => Sys2Proof.Machine.execXrCancel s
  | .xrClrOvf => Sys2Proof.Machine.execXrClrOvf s
  | .xtStart => Sys2Proof.Machine.execXtStart s
  | .xtSendFrame n bytes => Sys2Proof.Machine.execXtSendFrame n bytes s
  | .xtOver => Sys2Proof.Machine.execXtOver s
  | .xtCancel => Sys2Proof.Machine.execXtCancel s
  | .xtClrOvf => Sys2Proof.Machine.execXtClrOvf s
  | .crcInit mode => Sys2Proof.Machine.execCrcInit mode s
  | .crcFeed byte => Sys2Proof.Machine.execCrcFeed byte s
  | .kftAck => Sys2Proof.Machine.execKftAck s
  | .kftNak => Sys2Proof.Machine.execKftNak s
  | .kftAckAbort => Sys2Proof.Machine.execKftAckAbort s
  | .kftCommand => Sys2Proof.Machine.execKftCommand s
  | .kftData => Sys2Proof.Machine.execKftData s
  | .kftPing => Sys2Proof.Machine.execKftPing s
  | .kftPingResponse => Sys2Proof.Machine.execKftPingResponse s
  | .xrSoh => Sys2Proof.Machine.execXrSoh s
  | .xrStx => Sys2Proof.Machine.execXrStx s
  | .xrEot => Sys2Proof.Machine.execXrEot s
  | .xrCan => Sys2Proof.Machine.execXrCan s
  | .xtModeCrc => Sys2Proof.Machine.execXtModeCrc s
  | .xtModeChecksum => Sys2Proof.Machine.execXtModeChecksum s
  | .xtAck => Sys2Proof.Machine.execXtAck s
  | .xtNak => Sys2Proof.Machine.execXtNak s
  | .xtCan => Sys2Proof.Machine.execXtCan s

end Sys2Proof.Machine
end

