-- ==== Sys2Proof/Machine/Turns.lean ====
section
/-! DEFINITION. What one step of one agent does to the whole block: how the bytes of the next instruction are fetched
(R160, R220, R270), the default rule of what the decoder rejects (R122, R130), and the port steps that have no opcode
(R124): receive push, transmit pop, ticks, XT emission, reset. -/

namespace Sys2Proof.Machine

/-! ## Fetch -/

/-- The XT encoding space a received byte is read in, by state (R270); none in IDLE and the terminal states (R274). -/
def xtSpace (st : XtState) (b : Byte) : Option Encoding :=
  match st with
  | .awaitMode => some (.xtMode b)
  | .awaitAck | .awaitEotAck => some (.xtReply b)
  | .waitFrame | .sendHeader | .sendSequence | .sendSequenceComplement | .sendData | .sendChecksum => some (.xtBusy b)
  | .idle | .done | .cancelled | .failed => none

/-- What a turn offers the decoder: a host command, or the head byte of a unit whose state reads tokens (R130). A KFT
header is complete when its type byte is at the head in WAIT_TYPE: the start byte was consumed by R161. -/
def fetch (s : State) : Turn → Option Encoding
  | .command c => some (.command c)
  | .byteStep .fe => if s.fe.rxState = .waitType then s.fe.chan.rxHead.map (Encoding.kftHeader 0x5A) else none
  | .byteStep .xr => if s.xr.state = .waitHeader then s.xr.chan.rxHead.map Encoding.xrHeader else none
  | .byteStep .xt => s.xt.chan.rxHead.bind (xtSpace s.xt.state)
  | .rxPush _ _ | .txPop _ | .tick _ | .retryTick _ | .emit | .reset => none

/-! ## What is no instruction -/

/-- The default rule of an encoding the decoder rejects: a reserved host opcode answers INVALID (R122); an FE type byte
restarts or is discarded (R162); XR noise and the bytes XT ignores are discarded (R226, R275, R279, R287, R288,
R292). -/
def defaultRule (s : State) : Turn → State
  | .command _ => s.respond .invalid .none
  | .byteStep .fe => s.feByte fun _ f b => some (f.otherTypeByte b)
  | .byteStep .xr => s.xrByte fun _ x _ => some x
  | .byteStep .xt => s.xtByte fun c x _ => some (x.discardByte c)
  | .rxPush _ _ | .txPop _ | .tick _ | .retryTick _ | .emit | .reset => s

/-! ## Port steps -/

/-- Receive push (R72). -/
def pushByte (s : State) (u : UnitId) (b : Byte) : State := s.setChan u ((s.chanOf u).rxPush s.cfg b)

/-- Transmit pop (R76): the byte leaves on the wire; not enabled when the queue is empty. -/
def popByte (s : State) (u : UnitId) : State :=
  match (s.chanOf u).txPop with
  | none => s
  | some (b, ch) => (s.setChan u ch).setWire (some (u, b))

/-- The tick rule of unit `u`: `none` when its expiry is held. -/
def tickUnit (s : State) : UnitId → Option State
  | .fe => (s.fe.tick s.cfg).map s.setFe
  | .xr => (s.xr.tick s.cfg).map s.setXr
  | .xt => (s.xt.tick s.cfg).map s.setXt

/-- The pending ticks of unit `u`. -/
def PendingTicks.get (p : PendingTicks) : UnitId → Nat
  | .fe => p.fe
  | .xr => p.xr
  | .xt => p.xt

/-- Set the pending ticks of unit `u`. -/
def PendingTicks.set (p : PendingTicks) (u : UnitId) (n : Nat) : PendingTicks :=
  match u with
  | .fe => { p with fe := n }
  | .xr => { p with xr := n }
  | .xt => { p with xt := n }

/-- A tick of unit `u`; a held one stays pending with the tick source (R64, D3). -/
def tickTurn (s : State) (u : UnitId) : State :=
  match tickUnit s u with
  | some t => t
  | none => s.setTicks (s.ticks.set u (s.ticks.get u + 1))

/-- A pending tick of unit `u` is tried again; it may still be held. -/
def retryTickTurn (s : State) (u : UnitId) : State :=
  if s.ticks.get u = 0 then s
  else match tickUnit s u with
    | some t => t.setTicks (t.ticks.set u (t.ticks.get u - 1))
    | none => s

/-- XT emission (R281). -/
def emitTurn (s : State) : State :=
  match s.xt.emit s.cfg with
  | some x => s.setXt x
  | none => s

/-- Reset (R370): every field at its reset value; the parameters stay, and so does what the environment does next. -/
def resetTurn (s : State) : State := (State.resetWith s.cfg).setAgenda s.agenda

/-- A turn that offers the decoder nothing. -/
def plainTurn (s : State) : Turn → State
  | .command _ => s
  | .rxPush u b => pushByte s u b
  | .txPop u => popByte s u
  | .byteStep .fe => s.feByte Fe.dataByte
  | .byteStep .xr => s.xrByte Xr.dataByte
  | .byteStep .xt => s.xtByte fun c x _ => some (x.discardByte c)
  | .tick u => tickTurn s u
  | .retryTick u => retryTickTurn s u
  | .emit => emitTurn s
  | .reset => resetTurn s

/-- One turn: the decoded instruction runs; what the decoder rejects takes the default rule; the rest is a port step or
a data byte. -/
def takeTurn (t : Turn) (s : State) : Host.Outcome State Fault Refusal :=
  match fetch s t with
  | none => .next (plainTurn s t)
  | some e => match decode e with
    | .instr i => exec i s
    | .reject _ => .next (defaultRule s t)

/-! ## Placing an instruction where the next step fetches it -/

/-- The channel with `b` at the head of its receive ring: over the head byte, or pushed into an empty ring. -/
def Channel.placeHead (c : Config) (ch : Channel) (b : Byte) : Channel :=
  if ch.readOffset = ch.writeOffset then
    { ch with rxBuf := ch.rxBuf.set ch.readOffset b, writeOffset := (ch.readOffset + 1) % c.rxqCap }
  else { ch with rxBuf := ch.rxBuf.set ch.readOffset b }

/-- The state whose next step fetches `e`: the turn that fetches it is put first, the byte stands at the head of the
unit's ring, and the unit is in a state that reads `e`'s encoding space. -/
def placeEncoding (s : State) (e : Encoding) : State :=
  match e with
  | .command c => s.setAgenda (.command c :: s.agenda)
  | .kftHeader _ second =>
    (s.setFe { s.fe with rxState := .waitType, chan := s.fe.chan.placeHead s.cfg second }).setAgenda
      (.byteStep .fe :: s.agenda)
  | .xrHeader b =>
    (s.setXr { s.xr with state := .waitHeader, chan := s.xr.chan.placeHead s.cfg b }).setAgenda
      (.byteStep .xr :: s.agenda)
  | .xtMode b =>
    (s.setXt { s.xt with state := .awaitMode, chan := s.xt.chan.placeHead s.cfg b }).setAgenda
      (.byteStep .xt :: s.agenda)
  | .xtReply b =>
    (s.setXt { s.xt with state := .awaitAck, chan := s.xt.chan.placeHead s.cfg b }).setAgenda
      (.byteStep .xt :: s.agenda)
  | .xtBusy b =>
    (s.setXt { s.xt with state := .waitFrame, chan := s.xt.chan.placeHead s.cfg b }).setAgenda
      (.byteStep .xt :: s.agenda)

/-- Place the instruction of a table word (log 18). -/
def placeTableWord (s : State) (nbits w : Nat) : State :=
  match tableEncoding nbits w with
  | some e => placeEncoding s e
  | none => s

end Sys2Proof.Machine
end

