-- ==== Sys2Proof/Machine/Step.lean ====
section
/-! DEFINITION. One step of the block: the first turn of the schedule is taken (R82, R84). Nothing is scheduled after
reset (R372), and a block to which nothing is offered stays as it is (log 4). -/

namespace Sys2Proof.Machine

/-- One atomic step: the first turn leaves the schedule and is taken. -/
def step (s : State) : Host.Outcome State Fault Refusal :=
  match s.agenda with
  | [] => .next s
  | t :: rest => takeTurn t (s.setAgenda rest)

/-- `s` with the instruction of an opcode-table word stored where `step` fetches its next instruction (log 18). -/
def State.withFetchWord (s : State) (nbits w : Nat) : State := placeTableWord s nbits w

end Sys2Proof.Machine
end

