-- ==== Sys2Proof/Safety.lean ====
section
/-! DEFINITION. What a safe state is, in the terms the statements use: the invariants of spec/10_state.md R24, R34, R44
with what makes them inductive; the FIFO a receive ring stands for; which bytes of the buffers the rules can still read;
and the turns that carry bytes to a unit. -/

namespace Sys2Proof.Machine

/-! ## Invariants -/

/-- A type byte of a COMMAND or DATA packet (R101). -/
abbrev IsPacketType (t : Byte) : Prop := t = 0xA4 ∨ t = 0xA5

/-- The unit an event belongs to (R341). -/
def Event.unit : Event → UnitId
  | .feTxOk _ | .feTxAborted _ | .feTxRetriesExhausted _ | .feTxTimeout _ => .fe
  | .xrFrame _ _ _ | .xrDone _ | .xrCancelled _ | .xrBadMessage _ | .xrTimeout _ => .xr
  | .xtReady _ | .xtAcked _ _ _ | .xtDone _ | .xtCancelled _ | .xtRetriesExhausted _ | .xtTimeout _ => .xt

/-- The field values R342 allows in a record. -/
def Event.FieldsOk : Event → Prop
  | .feTxOk t | .feTxAborted t | .feTxRetriesExhausted t | .feTxTimeout t => IsPacketType t
  | .xrFrame _ size data => (size = 128 ∨ size = 1024) ∧ data.length = size.toNat
  | .xtReady mode => mode = 0 ∨ mode = 1
  | .xtAcked _ n last => 1 ≤ n.toNat ∧ n.toNat ≤ 1024 ∧ (last = 0 ∨ last = 1)
  | .xrDone _ | .xrCancelled _ | .xrBadMessage _ | .xrTimeout _
  | .xtDone _ | .xtCancelled _ | .xtRetriesExhausted _ | .xtTimeout _ => True

/-- A channel within its capacities (R49), holding well-formed records of its own unit (R341, R342). -/
structure Channel.Wf (c : Config) (u : UnitId) (ch : Channel) : Prop where
  ring : ch.rxBuf.length = c.rxqCap
  read : ch.readOffset < c.rxqCap
  write : ch.writeOffset < c.rxqCap
  txFits : ch.txq.length ≤ c.txqCap
  evFits : ch.evq.length ≤ c.evqCap
  records : ∀ e ∈ ch.evq, e.unit = u ∧ e.FieldsOk

/-- The FE invariants of R24 and R20, with what keeps them inductive. -/
structure Fe.Inv (c : Config) (f : Fe) : Prop where
  chan : f.chan.Wf c .fe
  pktBufSize : f.pktBuf.length = c.mpsMax
  dlvSize : f.dlvPayload.length = c.mpsMax
  copySize : f.txCopy.length ≤ 6 + c.mpsMax
  mpsLow : 1 ≤ f.mps.toNat
  mpsHigh : f.mps.toNat ≤ c.mpsMax
  openType : f.rxState ≠ .waitStart → f.rxState ≠ .waitType → IsPacketType f.pktType
  fresh : f.rxState = .lenLo ∨ f.rxState = .lenHi ∨ f.rxState = .crcLo ∨ f.rxState = .crcHi → f.pktCount = 0
  lenLow : f.rxState = .lenHi → hi f.pktLen = 0
  lenOk : f.rxState = .crcLo ∨ f.rxState = .crcHi ∨ f.rxState = .payload → f.pktLen ≤ f.mps
  counting : f.rxState = .payload → f.pktCount < f.pktLen
  ackDecided : f.isAckNeeded = false
  delivered : f.dlvValid = true → IsPacketType f.dlvType ∧ f.dlvLen.toNat ≤ c.mpsMax
  timerOff : f.isBackToBackWrite = false → f.timer = 0
  copyType : f.isBackToBackWrite = true → IsPacketType f.txCopyType
  retryOk : ∀ m, c.feTxMaxRetries = some m → f.txRetry ≤ m

/-- The XR invariants of R34 and R30. -/
structure Xr.Inv (c : Config) (x : Xr) : Prop where
  chan : x.chan.Wf c .xr
  bufSize : x.buf.length = 1024
  countOk : x.count.toNat ≤ x.frameSize
  tcountOk : x.tcount.toNat < x.mode.trailerLen
  retryOk : x.retry ≤ c.xrMaxRetries
  timerOff : x.state.active = false → x.timer = 0

/-- The states in which XT holds a frame (3 to 8, R44). -/
def XtState.holdsFrame : XtState → Bool
  | .sendHeader | .sendSequence | .sendSequenceComplement | .sendData | .sendChecksum | .awaitAck => true
  | .idle | .awaitMode | .waitFrame | .awaitEotAck | .done | .cancelled | .failed => false

/-- The XT invariants of R44, R40 and the padding of R280. -/
structure Xt.Inv (c : Config) (x : Xt) : Prop where
  chan : x.chan.Wf c .xt
  bufSize : x.buf.length = 1024
  sentOk : x.sent.toNat ≤ x.mode.frameSize
  freshMode : x.state = .awaitMode → x.sent = 0
  sending : x.state = .sendData → x.sent.toNat < x.mode.frameSize
  lenOk : x.state.holdsFrame = true → 1 ≤ x.dataLen.toNat ∧ x.dataLen.toNat ≤ x.mode.frameSize
  shortOk : x.state.holdsFrame = true → x.short = decide (x.dataLen.toNat < x.mode.frameSize)
  padded : x.state.holdsFrame = true → ∀ i, x.dataLen.toNat ≤ i → i < x.mode.frameSize → x.buf[i]? = some 0x1A
  retryOk : x.retry ≤ c.xtMaxRetries
  timerOff : x.state.awaiting = false → x.timer = 0

/-- A safe state: legal parameters and every unit's invariant. -/
structure State.Inv (s : State) : Prop where
  legal : s.cfg.Legal
  fe : s.fe.Inv s.cfg
  xr : s.xr.Inv s.cfg
  xt : s.xt.Inv s.cfg

/-! ## The FIFO of a receive ring -/

/-- How many received bytes wait (R72, D4). -/
def Channel.waiting (c : Config) (ch : Channel) : Nat :=
  (ch.writeOffset + c.rxqCap - ch.readOffset) % c.rxqCap

/-- The bytes that wait in the ring, the next to be consumed first (R73, R84). -/
def Channel.pending (c : Config) (ch : Channel) : List Byte :=
  (List.range (ch.waiting c)).map fun i => ch.rxBuf.getD ((ch.readOffset + i) % c.rxqCap) 0

/-! ## Bytes that can still be read

U10 and U11 of 93_implementation_defined.md: buffer bytes the current packet or frame has not written may hold any
value. Two states agree when they differ in such bytes only. -/

/-- Channels that agree but for ring bytes at empty positions. -/
structure Channel.Agree (c : Config) (a b : Channel) : Prop where
  pending : a.pending c = b.pending c
  read : a.readOffset = b.readOffset
  write : a.writeOffset = b.writeOffset
  overflow : a.rxOverflow = b.rxOverflow
  txq : a.txq = b.txq
  evq : a.evq = b.evq

/-- FEs that agree but for payload bytes beyond `pkt_count` and delivered bytes beyond `dlv_len`. -/
structure Fe.Agree (c : Config) (a b : Fe) : Prop where
  chan : a.chan.Agree c b.chan
  rest : { a with pktBuf := [], dlvPayload := [], chan := b.chan } = { b with pktBuf := [], dlvPayload := [] }
  pktBuf : a.rxState = .payload → a.pktBuf.take a.pktCount.toNat = b.pktBuf.take b.pktCount.toNat
  dlv : a.dlvValid = true → a.dlvPayload.take a.dlvLen.toNat = b.dlvPayload.take b.dlvLen.toNat

/-- XRs that agree but for frame bytes beyond `count`. -/
structure Xr.Agree (c : Config) (a b : Xr) : Prop where
  chan : a.chan.Agree c b.chan
  rest : { a with buf := [], chan := b.chan } = { b with buf := [] }
  buf : a.state = .receiveData → a.buf.take a.count.toNat = b.buf.take b.count.toNat

/-- XTs that agree but for the frame buffer while no frame is held, and its bytes beyond the frame size. -/
structure Xt.Agree (c : Config) (a b : Xt) : Prop where
  chan : a.chan.Agree c b.chan
  rest : { a with buf := [], chan := b.chan } = { b with buf := [] }
  buf : a.state.holdsFrame = true → a.buf.take a.mode.frameSize = b.buf.take b.mode.frameSize

/-- States that differ only in bytes whose value the spec leaves open (U10, U11). -/
structure State.Agree (s t : State) : Prop where
  fe : s.fe.Agree s.cfg t.fe
  xr : s.xr.Agree s.cfg t.xr
  xt : s.xt.Agree s.cfg t.xt
  rest : { s with fe := t.fe, xr := t.xr, xt := t.xt } = t

/-! ## Turns that carry bytes -/

/-- `RX u b0 b1 ...` of R131: each byte is pushed and its byte step follows. -/
def feed (u : UnitId) (bytes : List Byte) : List Turn := bytes.flatMap fun b => [.rxPush u b, .byteStep u]

/-- The agenda's turns run to the end, one step each. -/
def runTurns (s : State) (turns : List Turn) (after : List Turn) : Host.Outcome State Fault Refusal :=
  Sys2Proof.core.run turns.length (s.setAgenda (turns ++ after))

end Sys2Proof.Machine
end

