-- ==== Sys2Proof/Certificates/Slice0/Obligations.lean ====
section
/-! DEFINITION. The statements for the provers. Each says what spec/ says, in the model's terms; a statement that gives
a whole next state gives the frame with it: every field not named is unchanged. -/

open Sys2Proof Sys2Proof.Machine

/-! ## Encodings -/

/-- R101, R109, R121, R130: every instruction is decoded back from its encoding, and an encoding that decodes to an
instruction carries the same opcode-table bits as that instruction's encoding (for XT_CAN in all three of its spaces). -/
def Obligations.DecodeAndEncodeAgree : Prop :=
  (∀ i : Instr, i.WellFormed → decode (encode i) = .instr i) ∧
  (∀ (e : Encoding) (i : Instr), decode e = .instr i → e.tableWord = (encode i).tableWord) ∧
  (∀ i j : Instr, encode i = encode j → i = j)

/-- R122: exactly the reserved opcodes are rejected, and such a command returns INVALID and changes no state. -/
def Obligations.ReservedOpcodesAnswerInvalid : Prop :=
  ∀ (c : Command) (s : State),
    ((c.op.toNat = 0 ∨ (0x04 ≤ c.op.toNat ∧ c.op.toNat ≤ 0x0F) ∨ (0x14 ≤ c.op.toNat ∧ c.op.toNat ≤ 0x1F) ∨
        (0x23 ≤ c.op.toNat ∧ c.op.toNat ≤ 0x2F) ∨ (0x35 ≤ c.op.toNat ∧ c.op.toNat ≤ 0x3F) ∨ 0x42 ≤ c.op.toNat) →
      takeTurn (.command c) s = .next { s with response := some ⟨.invalid, .none⟩ }) ∧
    (¬(c.op.toNat = 0 ∨ (0x04 ≤ c.op.toNat ∧ c.op.toNat ≤ 0x0F) ∨ (0x14 ≤ c.op.toNat ∧ c.op.toNat ≤ 0x1F) ∨
        (0x23 ≤ c.op.toNat ∧ c.op.toNat ≤ 0x2F) ∨ (0x35 ≤ c.op.toNat ∧ c.op.toNat ≤ 0x3F) ∨ 0x42 ≤ c.op.toNat) →
      ∃ i, decode (.command c) = .instr i ∧ takeTurn (.command c) s = exec i s)

/-- Words written out from R121 and R101, R109 decode to their instructions. -/
def Obligations.SpecWordsDecode : Prop :=
  decode (.command ⟨0x10, 0xA4, 0x000C, 0, [0xA7, 0, 0, 2, 0, 0, 0, 0, 0x20, 0, 0, 0]⟩) =
      .instr (.feSend 0xA4 0x000C [0xA7, 0, 0, 2, 0, 0, 0, 0, 0x20, 0, 0, 0]) ∧
    decode (.command ⟨0x01, 0x03, 0, 0, []⟩) = .instr (.regRead 0x03) ∧
    decode (.command ⟨0x31, 0, 0x0003, 0, [0x41, 0x42, 0x43]⟩) = .instr (.xtSendFrame 3 [0x41, 0x42, 0x43]) ∧
    decode (.command ⟨0x40, 0x01, 0, 0, []⟩) = .instr (.crcInit 1) ∧
    decode (.kftHeader 0x5A 0xA6) = .instr .kftPing ∧
    decode (.xrHeader 0x02) = .instr .xrStx ∧
    decode (.xtMode 0x15) = .instr .xtModeChecksum ∧
    decode (.xtReply 0x15) = .instr .xtNak

/-- A step runs the decoded instruction: the first turn leaves the schedule, and if the turn offers the decoder an
encoding of an instruction, the step is `exec` of it; with an empty schedule nothing happens (log 4). -/
def Obligations.StepRunsTheDecodedInstruction : Prop :=
  (∀ (s : State) (t : Turn) (rest : List Turn) (e : Encoding) (i : Instr),
    s.agenda = t :: rest → fetch s t = some e → decode e = .instr i → step s = exec i { s with agenda := rest }) ∧
  (∀ (s : State) (t : Turn) (rest : List Turn),
    s.agenda = t :: rest → step s = takeTurn t { s with agenda := rest }) ∧
  (∀ s : State, s.agenda = [] → step s = .next s)

/-! ## CRC -/

/-- R141, whole. -/
def Obligations.CrcCcittProperties : Prop :=
  crc16Ccitt 0 [] = 0x0000 ∧ crc16Ccitt 0 [0x00] = 0x0000 ∧ crc16Ccitt 0 [0x01] = 0x1021 ∧
    crc16Ccitt 0 [0xFF] = 0x1EF0 ∧
    crc16Ccitt 0 [0x31, 0x32, 0x33, 0x34, 0x35, 0x36, 0x37, 0x38, 0x39] = 0x31C3 ∧
    (∀ (n : Nat) (s : List Byte), crc16Ccitt 0 (List.replicate n 0 ++ s) = crc16Ccitt 0 s) ∧
    (∀ n : Nat, crc16Ccitt 0 (List.replicate n 0) = 0) ∧
    (∀ s : List Byte, crc16Ccitt 0 (s ++ [hi (crc16Ccitt 0 s), lo (crc16Ccitt 0 s)]) = 0x0000) ∧
    (∀ (c : Half) (s t : List Byte), crc16Ccitt c (s ++ t) = crc16Ccitt (crc16Ccitt c s) t)

/-- R143, whole. -/
def Obligations.CrcModbusProperties : Prop :=
  crc16Modbus 0xFFFF [] = 0xFFFF ∧
    crc16Modbus 0xFFFF [0x31, 0x32, 0x33, 0x34, 0x35, 0x36, 0x37, 0x38, 0x39] = 0x4B37 ∧
    crc16Modbus 0xFFFF [0x01, 0x03, 0x00, 0x00, 0x00, 0x01] = 0x0A84 ∧
    (∀ s : List Byte,
      crc16Modbus 0xFFFF (s ++ [lo (crc16Modbus 0xFFFF s), hi (crc16Modbus 0xFFFF s)]) = 0x0000)

/-- From R140: two messages that differ in one byte have different CCITT CRCs, whatever the start value. -/
def Obligations.CrcCcittCatchesOneWrongByte : Prop :=
  ∀ (c : Half) (before after : List Byte) (a b : Byte), a ≠ b →
    crc16Ccitt c (before ++ a :: after) ≠ crc16Ccitt c (before ++ b :: after)

/-- R145, R146: CRC_INIT and CRC_FEED. -/
def Obligations.CrcCommandsSetAndStepTheAccumulator : Prop :=
  (∀ (mode : Byte) (s : State),
      (mode = 0 → exec (.crcInit mode) s =
        .next { s with crcu := ⟨0x0000, .ccitt⟩, response := some ⟨.ok, .none⟩ }) ∧
      (mode = 1 → exec (.crcInit mode) s =
        .next { s with crcu := ⟨0xFFFF, .modbus⟩, response := some ⟨.ok, .none⟩ }) ∧
      (2 ≤ mode.toNat → exec (.crcInit mode) s = .next { s with response := some ⟨.invalid, .none⟩ })) ∧
  (∀ (b : Byte) (s : State),
      (s.crcu.mode = .ccitt → exec (.crcFeed b) s = .next { s with
        crcu := ⟨stepCcitt s.crcu.acc b, .ccitt⟩, response := some ⟨.ok, .none⟩ }) ∧
      (s.crcu.mode = .modbus → exec (.crcFeed b) s = .next { s with
        crcu := ⟨stepModbus s.crcu.acc b, .modbus⟩, response := some ⟨.ok, .none⟩ }))

/-- R146, R140, R142: a stream of bytes fed by commands, one step each, leaves the CRC of the stream, continued from
the value before, and changes nothing else. -/
def Obligations.CrcUnitComputesTheStreamCrc : Prop :=
  ∀ (s : State) (bytes : List Byte) (rest : List Turn), bytes ≠ [] →
    runTurns s (bytes.map fun b => .command ⟨0x41, b, 0, 0, []⟩) rest = .next { s with
      agenda := rest
      crcu := { s.crcu with acc := match s.crcu.mode with
        | .ccitt => crc16Ccitt s.crcu.acc bytes
        | .modbus => crc16Modbus s.crcu.acc bytes }
      response := some ⟨.ok, .none⟩ }

/-! ## Registers and generic commands -/

/-- R320: registers 0x00 to 0x0A with the fields of R50 to R60, and no register above 0x0A. -/
def Obligations.RegReadReturnsTheRegister : Prop :=
  ∀ s : State,
    (exec (.regRead 0x00) s = .next { s with response := some ⟨.ok, .value (s.fe.mps.setWidth 32)⟩ }) ∧
    (exec (.regRead 0x02) s = .next { s with response := some ⟨.ok, .value s.fe.timer⟩ }) ∧
    (exec (.regRead 0x05) s = .next { s with response := some ⟨.ok, .value s.xr.timer⟩ }) ∧
    (exec (.regRead 0x08) s = .next { s with response := some ⟨.ok, .value s.xt.total⟩ }) ∧
    (exec (.regRead 0x09) s = .next { s with response := some ⟨.ok, .value s.xt.timer⟩ }) ∧
    (∃ v : Word, exec (.regRead 0x01) s = .next { s with response := some ⟨.ok, .value v⟩ } ∧
      v.extractLsb' 0 3 = s.fe.rxState.code ∧ v.getLsbD 3 = s.fe.isAckNeeded ∧
      v.getLsbD 4 = s.fe.isAckAbortNeeded ∧ v.getLsbD 5 = s.fe.isBackToBackWrite ∧ v.getLsbD 6 = s.fe.dlvValid ∧
      v.getLsbD 7 = s.fe.chan.rxOverflow ∧ v.getLsbD 8 = decide (s.fe.chan.txq = []) ∧
      v.getLsbD 9 = decide (s.fe.timer ≠ 0) ∧ v.extractLsb' 10 6 = 0 ∧ v.extractLsb' 16 8 = s.fe.txRetry ∧
      v.extractLsb' 24 8 = 0) ∧
    (∃ v : Word, exec (.regRead 0x03) s = .next { s with response := some ⟨.ok, .value v⟩ } ∧
      v.extractLsb' 0 4 = s.xr.state.code ∧ v.getLsbD 4 = decide (s.xr.mode = .crc) ∧ v.getLsbD 5 = s.xr.first ∧
      v.getLsbD 6 = s.xr.chan.rxOverflow ∧ v.getLsbD 7 = decide (s.xr.timer ≠ 0) ∧
      v.extractLsb' 8 8 = s.xr.expectedSeq ∧ v.extractLsb' 16 8 = s.xr.retry ∧ v.extractLsb' 24 8 = s.xr.rxSeq) ∧
    (∃ v : Word, exec (.regRead 0x04) s = .next { s with response := some ⟨.ok, .value v⟩ } ∧
      v.extractLsb' 0 11 = s.xr.count ∧ v.extractLsb' 11 2 = s.xr.tcount ∧ v.getLsbD 13 = s.xr.size1k ∧
      v.getLsbD 14 = decide (s.xr.chan.txq = []) ∧ v.extractLsb' 15 17 = 0) ∧
    (∃ v : Word, exec (.regRead 0x06) s = .next { s with response := some ⟨.ok, .value v⟩ } ∧
      v.extractLsb' 0 4 = s.xt.state.code ∧ v.getLsbD 4 = decide (s.xt.mode = .crc) ∧ v.getLsbD 5 = s.xt.short ∧
      v.getLsbD 6 = s.xt.chan.rxOverflow ∧ v.getLsbD 7 = decide (s.xt.timer ≠ 0) ∧ v.extractLsb' 8 8 = s.xt.seq ∧
      v.extractLsb' 16 8 = s.xt.retry ∧ v.getLsbD 24 = s.xt.tidx ∧ v.getLsbD 25 = decide (s.xt.chan.txq = []) ∧
      v.extractLsb' 26 6 = 0) ∧
    (∃ v : Word, exec (.regRead 0x07) s = .next { s with response := some ⟨.ok, .value v⟩ } ∧
      v.extractLsb' 0 11 = s.xt.sent ∧ v.extractLsb' 11 5 = 0 ∧ v.extractLsb' 16 11 = s.xt.dataLen ∧
      v.extractLsb' 27 5 = 0) ∧
    (∃ v : Word, exec (.regRead 0x0A) s = .next { s with response := some ⟨.ok, .value v⟩ } ∧
      v.extractLsb' 0 16 = s.crcu.acc ∧ v.getLsbD 16 = decide (s.crcu.mode = .modbus) ∧ v.extractLsb' 17 15 = 0) ∧
    ∀ reg : Byte, 0x0B ≤ reg.toNat → exec (.regRead reg) s = .next { s with response := some ⟨.invalid, .none⟩ }

/-- R21, R31, R41, R123, R341: the encodings the host sees; R345: the interrupt request lines. -/
def Obligations.CodesAndInterruptLines : Prop :=
  (RxState.waitStart.code = 0 ∧ RxState.waitType.code = 1 ∧ RxState.lenLo.code = 2 ∧ RxState.lenHi.code = 3 ∧
    RxState.crcLo.code = 4 ∧ RxState.crcHi.code = 5 ∧ RxState.payload.code = 6) ∧
  (XrState.idle.code = 0 ∧ XrState.waitHeader.code = 1 ∧ XrState.waitSequence.code = 2 ∧
    XrState.waitSequenceComplement.code = 3 ∧ XrState.receiveData.code = 4 ∧ XrState.done.code = 5 ∧
    XrState.cancelled.code = 6 ∧ XrState.failed.code = 7) ∧
  (XtState.idle.code = 0 ∧ XtState.awaitMode.code = 1 ∧ XtState.waitFrame.code = 2 ∧ XtState.sendHeader.code = 3 ∧
    XtState.sendSequence.code = 4 ∧ XtState.sendSequenceComplement.code = 5 ∧ XtState.sendData.code = 6 ∧
    XtState.sendChecksum.code = 7 ∧ XtState.awaitAck.code = 8 ∧ XtState.awaitEotAck.code = 9 ∧
    XtState.done.code = 10 ∧ XtState.cancelled.code = 11 ∧ XtState.failed.code = 12) ∧
  (Status.ok.code = 0 ∧ Status.busy.code = 1 ∧ Status.invalid.code = 2 ∧ Status.empty.code = 3) ∧
  (∀ t, (Event.feTxOk t).code = 0x10 ∧ (Event.feTxAborted t).code = 0x11 ∧
    (Event.feTxRetriesExhausted t).code = 0x12 ∧ (Event.feTxTimeout t).code = 0x13) ∧
  (∀ q z d, (Event.xrFrame q z d).code = 0x20 ∧ (Event.xrDone q).code = 0x21 ∧ (Event.xrCancelled q).code = 0x22 ∧
    (Event.xrBadMessage q).code = 0x23 ∧ (Event.xrTimeout q).code = 0x24) ∧
  (∀ m q n l w, (Event.xtReady m).code = 0x30 ∧ (Event.xtAcked q n l).code = 0x31 ∧ (Event.xtDone w).code = 0x32 ∧
    (Event.xtCancelled q).code = 0x33 ∧ (Event.xtRetriesExhausted q).code = 0x34 ∧ (Event.xtTimeout q).code = 0x35) ∧
  (∀ s : State,
      (irqFe s = true ↔ s.fe.chan.evq ≠ [] ∨ s.fe.dlvValid = true) ∧
      (irqXr s = true ↔ s.xr.chan.evq ≠ []) ∧
      (irqXt s = true ↔ s.xt.chan.evq ≠ []))

/-- R321: REG_WRITE. -/
def Obligations.RegWriteSetsTheMpsOnly : Prop :=
  ∀ (reg : Byte) (v : Word) (s : State),
    (reg ≠ 0 → exec (.regWrite reg v) s = .next { s with response := some ⟨.invalid, .none⟩ }) ∧
    (reg = 0 → (v.extractLsb' 16 16 ≠ 0 ∨ v.extractLsb' 0 16 = 0 ∨ s.cfg.mpsMax < (v.extractLsb' 0 16).toNat) →
      exec (.regWrite reg v) s = .next { s with response := some ⟨.invalid, .none⟩ }) ∧
    (reg = 0 → v.extractLsb' 16 16 = 0 → v.extractLsb' 0 16 ≠ 0 → (v.extractLsb' 0 16).toNat ≤ s.cfg.mpsMax →
      (s.fe.rxState ≠ .waitStart →
        exec (.regWrite reg v) s = .next { s with response := some ⟨.busy, .none⟩ }) ∧
      (s.fe.rxState = .waitStart → exec (.regWrite reg v) s =
        .next { s with fe := { s.fe with mps := v.extractLsb' 0 16 }, response := some ⟨.ok, .none⟩ }))

/-- R322: EV_POP. -/
def Obligations.EvPopRemovesTheHeadRecord : Prop :=
  ∀ (unit : Byte) (s : State),
    (3 ≤ unit.toNat → exec (.evPop unit) s = .next { s with response := some ⟨.invalid, .none⟩ }) ∧
    (unit = 0 → s.fe.chan.evq = [] → exec (.evPop unit) s = .next { s with response := some ⟨.empty, .none⟩ }) ∧
    (unit = 1 → s.xr.chan.evq = [] → exec (.evPop unit) s = .next { s with response := some ⟨.empty, .none⟩ }) ∧
    (unit = 2 → s.xt.chan.evq = [] → exec (.evPop unit) s = .next { s with response := some ⟨.empty, .none⟩ }) ∧
    ∀ (e : Event) (es : List Event),
      (unit = 0 → s.fe.chan.evq = e :: es → exec (.evPop unit) s = .next { s with
        fe := { s.fe with chan := { s.fe.chan with evq := es } }, response := some ⟨.ok, .record e.code e⟩ }) ∧
      (unit = 1 → s.xr.chan.evq = e :: es → exec (.evPop unit) s = .next { s with
        xr := { s.xr with chan := { s.xr.chan with evq := es } }, response := some ⟨.ok, .record e.code e⟩ }) ∧
      (unit = 2 → s.xt.chan.evq = e :: es → exec (.evPop unit) s = .next { s with
        xt := { s.xt with chan := { s.xt.chan with evq := es } }, response := some ⟨.ok, .record e.code e⟩ })

/-- R186, R187, R223, R273: each of these commands writes one flag of its unit and has no other effect. -/
def Obligations.FlagCommandsWriteOneFlag : Prop :=
  ∀ s : State,
    exec .feAbortDataPhase s = .next { s with
      fe := { s.fe with isAckAbortNeeded := true }, response := some ⟨.ok, .none⟩ } ∧
    exec .feClrOvf s = .next { s with
      fe := { s.fe with chan := { s.fe.chan with rxOverflow := false } }, response := some ⟨.ok, .none⟩ } ∧
    exec .xrClrOvf s = .next { s with
      xr := { s.xr with chan := { s.xr.chan with rxOverflow := false } }, response := some ⟨.ok, .none⟩ } ∧
    exec .xtClrOvf s = .next { s with
      xt := { s.xt with chan := { s.xt.chan with rxOverflow := false } }, response := some ⟨.ok, .none⟩ }

/-- R323: a host command always completes and returns a status; one that returns BUSY, INVALID or EMPTY changes no
state at all (but the port's answer). -/
def Obligations.CommandsAnswerAndFailuresChangeNothing : Prop :=
  ∀ (c : Command) (s : State), ∃ (t : State) (r : Response),
    takeTurn (.command c) s = .next t ∧ t.response = some r ∧ (r.status ≠ .ok → t = { s with response := some r })

/-! ## FE: host commands and tick -/

/-- R180: FE_SEND. -/
def Obligations.FeSendFramesAndQueues : Prop :=
  ∀ (type : Byte) (len : Half) (bytes : List Byte) (s : State) (c : Half) (p : List Byte),
    c = crc16Ccitt 0 ([0x5A, type, lo len, hi len] ++ bytes) →
    p = [0x5A, type, lo len, hi len, lo c, hi c] ++ bytes →
    ((¬IsPacketType type ∨ s.fe.mps < len ∨ bytes.length ≠ len.toNat) →
      exec (.feSend type len bytes) s = .next { s with response := some ⟨.invalid, .none⟩ }) ∧
    (IsPacketType type → len ≤ s.fe.mps → bytes.length = len.toNat →
      (s.fe.isBackToBackWrite = true →
        exec (.feSend type len bytes) s = .next { s with response := some ⟨.busy, .none⟩ }) ∧
      (s.fe.isBackToBackWrite = false → s.cfg.txqCap < s.fe.chan.txq.length + p.length →
        exec (.feSend type len bytes) s = .next { s with response := some ⟨.busy, .none⟩ }) ∧
      (s.fe.isBackToBackWrite = false → s.fe.chan.txq.length + p.length ≤ s.cfg.txqCap →
        exec (.feSend type len bytes) s = .next { s with
          fe := { s.fe with
            txCopy := p, txCopyType := type, txRetry := 0, isBackToBackWrite := true, timer := s.cfg.feAckTimeout
            chan := { s.fe.chan with txq := s.fe.chan.txq ++ p } }
          response := some ⟨.ok, .none⟩ }))

/-- R185: FE_TAKE. -/
def Obligations.FeTakeEmptiesTheSlot : Prop :=
  ∀ s : State,
    (s.fe.dlvValid = false → exec .feTake s = .next { s with response := some ⟨.empty, .none⟩ }) ∧
    (s.fe.dlvValid = true → exec .feTake s = .next { s with
      fe := { s.fe with dlvValid := false }
      response := some ⟨.ok, .packet s.fe.dlvType s.fe.dlvLen (s.fe.dlvPayload.take s.fe.dlvLen.toNat)⟩ })

/-- R184, R239, R293: the three tick steps; a held expiry leaves every unit as it is (only the tick source's count of
pending ticks may change, `HeldTicksAreTriedAgain`). -/
def Obligations.TicksCountDownAndExpire : Prop :=
  (∀ s : State,
      (s.fe.timer = 0 → takeTurn (.tick .fe) s = .next s) ∧
      (1 < s.fe.timer.toNat → takeTurn (.tick .fe) s = .next { s with fe := { s.fe with timer := s.fe.timer - 1 } }) ∧
      (s.fe.timer = 1 → s.fe.chan.evq.length < s.cfg.evqCap → takeTurn (.tick .fe) s = .next { s with
        fe := { s.fe with
          timer := 0, isBackToBackWrite := false, txRetry := 0
          chan := { s.fe.chan with evq := s.fe.chan.evq ++ [.feTxTimeout s.fe.txCopyType] } } }) ∧
      (s.fe.timer = 1 → s.cfg.evqCap ≤ s.fe.chan.evq.length → ∃ p, takeTurn (.tick .fe) s = .next { s with ticks := p })) ∧
  (∀ s : State,
      (s.xr.timer = 0 → takeTurn (.tick .xr) s = .next s) ∧
      (1 < s.xr.timer.toNat → takeTurn (.tick .xr) s = .next { s with xr := { s.xr with timer := s.xr.timer - 1 } }) ∧
      (s.xr.timer = 1 → s.xr.chan.evq.length < s.cfg.evqCap → takeTurn (.tick .xr) s = .next { s with
        xr := { s.xr with
          timer := 0, state := .failed
          chan := { s.xr.chan with evq := s.xr.chan.evq ++ [.xrTimeout s.xr.expectedSeq] } } }) ∧
      (s.xr.timer = 1 → s.cfg.evqCap ≤ s.xr.chan.evq.length → ∃ p, takeTurn (.tick .xr) s = .next { s with ticks := p })) ∧
  (∀ (s : State) (room : Prop),
      (room ↔ 3 ≤ s.cfg.txqCap - s.xt.chan.txq.length ∧ s.xt.chan.evq.length < s.cfg.evqCap) →
      (s.xt.timer = 0 → takeTurn (.tick .xt) s = .next s) ∧
      (1 < s.xt.timer.toNat → takeTurn (.tick .xt) s = .next { s with xt := { s.xt with timer := s.xt.timer - 1 } }) ∧
      (s.xt.timer = 1 → room → takeTurn (.tick .xt) s = .next { s with
        xt := { s.xt with
          timer := 0, state := .failed
          chan := { s.xt.chan with
            txq := s.xt.chan.txq ++ [0x18, 0x18, 0x18], evq := s.xt.chan.evq ++ [.xtTimeout s.xt.seq] } } }) ∧
      (s.xt.timer = 1 → ¬room → ∃ p, takeTurn (.tick .xt) s = .next { s with ticks := p }))

/-! ## FE: the KFT tokens -/

/-- R163, R165: KFT_ACK and KFT_ACK_ABORT. -/
def Obligations.KftAckAndAckAbortEndTheExchange : Prop :=
  (∀ s : State, s.fe.rxState = .waitType → s.fe.chan.rxHead = some 0xA1 →
      (s.fe.isBackToBackWrite = false → exec .kftAck s = .next { s with
        fe := { s.fe with rxState := .waitStart, chan := s.fe.chan.consume s.cfg } }) ∧
      (s.fe.isBackToBackWrite = true → s.fe.chan.evq.length < s.cfg.evqCap → exec .kftAck s = .next { s with
        fe := { s.fe with
          rxState := .waitStart, isBackToBackWrite := false, timer := 0, txRetry := 0
          chan := { s.fe.chan.consume s.cfg with evq := s.fe.chan.evq ++ [.feTxOk s.fe.txCopyType] } } }) ∧
      (s.fe.isBackToBackWrite = true → s.cfg.evqCap ≤ s.fe.chan.evq.length → exec .kftAck s = .next s)) ∧
  (∀ s : State, s.fe.rxState = .waitType → s.fe.chan.rxHead = some 0xA3 →
      (s.fe.isBackToBackWrite = false → exec .kftAckAbort s = .next { s with
        fe := { s.fe with rxState := .waitStart, chan := s.fe.chan.consume s.cfg } }) ∧
      (s.fe.isBackToBackWrite = true → s.fe.chan.evq.length < s.cfg.evqCap → exec .kftAckAbort s = .next { s with
        fe := { s.fe with
          rxState := .waitStart, isBackToBackWrite := false, timer := 0, txRetry := 0
          chan := { s.fe.chan.consume s.cfg with evq := s.fe.chan.evq ++ [.feTxAborted s.fe.txCopyType] } } }) ∧
      (s.fe.isBackToBackWrite = true → s.cfg.evqCap ≤ s.fe.chan.evq.length → exec .kftAckAbort s = .next s))

/-- R164: KFT_NAK. -/
def Obligations.KftNakResendsOrGivesUp : Prop :=
  ∀ s : State, s.fe.rxState = .waitType → s.fe.chan.rxHead = some 0xA2 →
    (s.fe.isBackToBackWrite = false → exec .kftNak s = .next { s with
      fe := { s.fe with rxState := .waitStart, chan := s.fe.chan.consume s.cfg } }) ∧
    (s.fe.isBackToBackWrite = true → s.cfg.feTxMaxRetries = some s.fe.txRetry →
      (s.fe.chan.evq.length < s.cfg.evqCap → exec .kftNak s = .next { s with
        fe := { s.fe with
          rxState := .waitStart, isBackToBackWrite := false, timer := 0, txRetry := 0
          chan := { s.fe.chan.consume s.cfg with
            evq := s.fe.chan.evq ++ [.feTxRetriesExhausted s.fe.txCopyType] } } }) ∧
      (s.cfg.evqCap ≤ s.fe.chan.evq.length → exec .kftNak s = .next s)) ∧
    (s.fe.isBackToBackWrite = true → s.cfg.feTxMaxRetries ≠ some s.fe.txRetry →
      (s.fe.txCopy.length ≤ s.cfg.txqCap - s.fe.chan.txq.length → exec .kftNak s = .next { s with
        fe := { s.fe with
          rxState := .waitStart
          txRetry := BitVec.ofNat 8 (min (s.fe.txRetry.toNat + 1) 255), timer := s.cfg.feAckTimeout
          chan := { s.fe.chan.consume s.cfg with txq := s.fe.chan.txq ++ s.fe.txCopy } } }) ∧
      (s.cfg.txqCap - s.fe.chan.txq.length < s.fe.txCopy.length → exec .kftNak s = .next s))

/-- R166, R167: KFT_COMMAND and KFT_DATA open a packet. -/
def Obligations.KftTypeByteOpensAPacket : Prop :=
  ∀ s : State, s.fe.rxState = .waitType →
    (s.fe.chan.rxHead = some 0xA4 → exec .kftCommand s = .next { s with
      fe := { s.fe with
        pktType := 0xA4, pktLen := 0, pktCrc := 0, pktCount := 0, rxState := .lenLo
        chan := s.fe.chan.consume s.cfg } }) ∧
    (s.fe.chan.rxHead = some 0xA5 → exec .kftData s = .next { s with
      fe := { s.fe with
        pktType := 0xA5, pktLen := 0, pktCrc := 0, pktCount := 0, rxState := .lenLo
        chan := s.fe.chan.consume s.cfg } })

/-- R168, R105: KFT_PING queues the ten bytes of a PING-RESPONSE; R169: KFT_PING_RESPONSE is discarded. -/
def Obligations.KftPingIsAnsweredPingResponseIsNot : Prop :=
  ∀ (s : State) (q : List Byte) (c : Half), s.fe.rxState = .waitType →
    q = [0x5A, 0xA7, s.cfg.kftVersion.extractLsb' 0 8, s.cfg.kftVersion.extractLsb' 8 8,
      s.cfg.kftVersion.extractLsb' 16 8, s.cfg.kftVersion.extractLsb' 24 8,
      s.cfg.kftPingOptions.extractLsb' 0 8, s.cfg.kftPingOptions.extractLsb' 8 8] →
    c = crc16Ccitt 0 q →
    (s.fe.chan.rxHead = some 0xA6 → 10 ≤ s.cfg.txqCap - s.fe.chan.txq.length → exec .kftPing s = .next { s with
      fe := { s.fe with
        rxState := .waitStart
        chan := { s.fe.chan.consume s.cfg with
          txq := s.fe.chan.txq ++ q ++ [c.extractLsb' 0 8, c.extractLsb' 8 8] } } }) ∧
    (s.fe.chan.rxHead = some 0xA6 → s.cfg.txqCap - s.fe.chan.txq.length < 10 → exec .kftPing s = .next s) ∧
    (s.fe.chan.rxHead = some 0xA7 → exec .kftPingResponse s = .next { s with
      fe := { s.fe with rxState := .waitStart, chan := s.fe.chan.consume s.cfg } })

/-! ## FE: the parser -/

/-- R161, R162: the start scan, and the classification of the type byte. -/
def Obligations.FeScansAndClassifies : Prop :=
  ∀ (s : State) (b : Byte), s.fe.chan.rxHead = some b →
    (s.fe.rxState = .waitStart → b = 0x5A → takeTurn (.byteStep .fe) s = .next { s with
      fe := { s.fe with rxState := .waitType, chan := s.fe.chan.consume s.cfg } }) ∧
    (s.fe.rxState = .waitStart → b ≠ 0x5A → takeTurn (.byteStep .fe) s = .next { s with
      fe := { s.fe with chan := s.fe.chan.consume s.cfg } }) ∧
    (s.fe.rxState = .waitType →
      (b = 0xA1 → takeTurn (.byteStep .fe) s = exec .kftAck s) ∧
      (b = 0xA2 → takeTurn (.byteStep .fe) s = exec .kftNak s) ∧
      (b = 0xA3 → takeTurn (.byteStep .fe) s = exec .kftAckAbort s) ∧
      (b = 0xA4 → takeTurn (.byteStep .fe) s = exec .kftCommand s) ∧
      (b = 0xA5 → takeTurn (.byteStep .fe) s = exec .kftData s) ∧
      (b = 0xA6 → takeTurn (.byteStep .fe) s = exec .kftPing s) ∧
      (b = 0xA7 → takeTurn (.byteStep .fe) s = exec .kftPingResponse s) ∧
      (b = 0x5A → takeTurn (.byteStep .fe) s = .next { s with
        fe := { s.fe with chan := s.fe.chan.consume s.cfg } }) ∧
      (b ≠ 0x5A → b.toNat < 0xA1 ∨ 0xA7 < b.toNat → takeTurn (.byteStep .fe) s = .next { s with
        fe := { s.fe with rxState := .waitStart, chan := s.fe.chan.consume s.cfg } }))

/-- R170, R171, R172, R173 (with a payload to come), R174 (with more payload to come): the counted fields of a packet. -/
def Obligations.FeReadsTheCountedFields : Prop :=
  ∀ (s : State) (b : Byte), s.fe.chan.rxHead = some b →
    (s.fe.rxState = .lenLo → takeTurn (.byteStep .fe) s = .next { s with
      fe := { s.fe with pktLen := b.setWidth 16, rxState := .lenHi, chan := s.fe.chan.consume s.cfg } }) ∧
    (s.fe.rxState = .lenHi → ∀ L : Half, L.toNat = s.fe.pktLen.toNat % 256 + 256 * b.toNat →
      (L ≤ s.fe.mps → takeTurn (.byteStep .fe) s = .next { s with
        fe := { s.fe with pktLen := L, rxState := .crcLo, chan := s.fe.chan.consume s.cfg } }) ∧
      (s.fe.mps < L → 2 ≤ s.cfg.txqCap - s.fe.chan.txq.length → takeTurn (.byteStep .fe) s = .next { s with
        fe := { s.fe with
          pktLen := L, rxState := .waitStart
          chan := { s.fe.chan.consume s.cfg with txq := s.fe.chan.txq ++ [0x5A, 0xA2] } } }) ∧
      (s.fe.mps < L → s.cfg.txqCap - s.fe.chan.txq.length < 2 → takeTurn (.byteStep .fe) s = .next s)) ∧
    (s.fe.rxState = .crcLo → takeTurn (.byteStep .fe) s = .next { s with
      fe := { s.fe with pktCrc := b.setWidth 16, rxState := .crcHi, chan := s.fe.chan.consume s.cfg } }) ∧
    (s.fe.rxState = .crcHi → s.fe.pktLen ≠ 0 → ∀ c : Half, c.toNat = s.fe.pktCrc.toNat % 256 + 256 * b.toNat →
      takeTurn (.byteStep .fe) s = .next { s with
        fe := { s.fe with pktCrc := c, rxState := .payload, chan := s.fe.chan.consume s.cfg } }) ∧
    (s.fe.rxState = .payload → s.fe.pktCount + 1 ≠ s.fe.pktLen → takeTurn (.byteStep .fe) s = .next { s with
      fe := { s.fe with
        pktBuf := s.fe.pktBuf.set s.fe.pktCount.toNat b, pktCount := s.fe.pktCount + 1
        chan := s.fe.chan.consume s.cfg } })

/-- R175, R176, R177, in the step that consumes the packet's last byte `b` (R173, R174); `f` is FE with that byte
stored. -/
def Obligations.FeValidatesInTheLastByteStep : Prop :=
  ∀ (s : State) (b : Byte) (f : Fe), s.fe.chan.rxHead = some b →
    ((s.fe.rxState = .crcHi ∧ s.fe.pktLen = 0 ∧ ∃ c : Half, c.toNat = s.fe.pktCrc.toNat % 256 + 256 * b.toNat ∧
        f = { s.fe with pktCrc := c }) ∨
      (s.fe.rxState = .payload ∧ s.fe.pktCount + 1 = s.fe.pktLen ∧
        f = { s.fe with pktBuf := s.fe.pktBuf.set s.fe.pktCount.toNat b, pktCount := s.fe.pktLen })) →
    ∀ (good : Prop) (room : Nat) (ch : Channel),
      (good ↔ crc16Ccitt 0 ([0x5A, f.pktType, lo f.pktLen, hi f.pktLen] ++ f.pktBuf.take f.pktLen.toNat) = f.pktCrc) →
      room = s.cfg.txqCap - s.fe.chan.txq.length → ch = s.fe.chan.consume s.cfg →
      (¬good → 2 ≤ room → takeTurn (.byteStep .fe) s = .next { s with
        fe := { f with rxState := .waitStart, chan := { ch with txq := ch.txq ++ [0x5A, 0xA2] } } }) ∧
      (good → f.pktType = 0xA4 → 2 ≤ room → f.dlvValid = false → takeTurn (.byteStep .fe) s = .next { s with
        fe := { f with
          rxState := .waitStart, isAckNeeded := false, isAckAbortNeeded := false
          dlvValid := true, dlvType := 0xA4, dlvLen := f.pktLen
          dlvPayload := f.pktBuf.take f.pktLen.toNat ++ f.dlvPayload.drop f.pktLen.toNat
          chan := { ch with txq := ch.txq ++ [0x5A, 0xA1] } } }) ∧
      (good → f.pktType = 0xA5 → f.isAckAbortNeeded = true → 2 ≤ room →
        takeTurn (.byteStep .fe) s = .next { s with
          fe := { f with
            rxState := .waitStart, isAckNeeded := false, isAckAbortNeeded := false
            chan := { ch with txq := ch.txq ++ [0x5A, 0xA3] } } }) ∧
      (good → f.pktType = 0xA5 → f.isAckAbortNeeded = false → 2 ≤ room → f.dlvValid = false →
        takeTurn (.byteStep .fe) s = .next { s with
          fe := { f with
            rxState := .waitStart, isAckNeeded := false
            dlvValid := true, dlvType := 0xA5, dlvLen := f.pktLen
            dlvPayload := f.pktBuf.take f.pktLen.toNat ++ f.dlvPayload.drop f.pktLen.toNat
            chan := { ch with txq := ch.txq ++ [0x5A, 0xA1] } } }) ∧
      (room < 2 → takeTurn (.byteStep .fe) s = .next s) ∧
      (good → f.dlvValid = true → ¬(f.pktType = 0xA5 ∧ f.isAckAbortNeeded = true) → IsPacketType f.pktType →
        takeTurn (.byteStep .fe) s = .next s)

/-- R179: a byte step taken inside an accepted packet either keeps the packet open and queues nothing, or ends it and
queues exactly one reply; a held one changes nothing. -/
def Obligations.FeRepliesExactlyOncePerPacket : Prop :=
  ∀ (s t : State), s.fe.rxState ≠ .waitStart → s.fe.rxState ≠ .waitType →
    takeTurn (.byteStep .fe) s = .next t →
    t = s ∨
    (t.fe.rxState ≠ .waitStart ∧ t.fe.rxState ≠ .waitType ∧ t.fe.chan.txq = s.fe.chan.txq) ∨
    (t.fe.rxState = .waitStart ∧ ∃ r : Byte, (r = 0xA1 ∨ r = 0xA2 ∨ r = 0xA3) ∧
      t.fe.chan.txq = s.fe.chan.txq ++ [0x5A, r])

/-- R103, R104, R161 to R177 (E1): the bytes of a whole packet, fed to an FE that waits for one, are delivered, and
answered by exactly one ACK; nothing else of the block changes but the receive side's working fields. -/
def Obligations.FeDeliversAWholePacket : Prop :=
  ∀ (s : State) (type : Byte) (payload : List Byte) (len c : Half) (rest : List Turn),
    s.Inv → s.fe.rxState = .waitStart → s.fe.chan.pending s.cfg = [] → s.fe.dlvValid = false →
    s.fe.chan.txq.length + 2 ≤ s.cfg.txqCap → IsPacketType type →
    (type = 0xA5 → s.fe.isAckAbortNeeded = false) →
    len.toNat = payload.length → len ≤ s.fe.mps →
    c = crc16Ccitt 0 ([0x5A, type, lo len, hi len] ++ payload) →
    ∃ t : State,
      runTurns s (feed .fe ([0x5A, type, lo len, hi len, lo c, hi c] ++ payload)) rest = .next t ∧
      t.agenda = rest ∧ t.fe.rxState = .waitStart ∧ t.fe.chan.pending s.cfg = [] ∧
      t.fe.dlvValid = true ∧ t.fe.dlvType = type ∧ t.fe.dlvLen = len ∧ t.fe.dlvPayload.take len.toNat = payload ∧
      t.fe.chan.txq = s.fe.chan.txq ++ [0x5A, 0xA1] ∧ t.fe.chan.evq = s.fe.chan.evq ∧
      t.fe.isAckAbortNeeded = false ∧ t.fe.isBackToBackWrite = s.fe.isBackToBackWrite ∧ t.fe.txCopy = s.fe.txCopy ∧
      t.fe.txCopyType = s.fe.txCopyType ∧ t.fe.txRetry = s.fe.txRetry ∧ t.fe.timer = s.fe.timer ∧
      t.fe.mps = s.fe.mps ∧ t.fe.chan.rxOverflow = s.fe.chan.rxOverflow ∧
      { t with fe := s.fe, agenda := s.agenda } = s

/-- R175 (E2): a packet with one wrong payload byte is answered by exactly one NAK, and nothing is delivered; nothing else
of the block changes but the receive side's working fields. -/
def Obligations.FeRefusesACorruptedPacket : Prop :=
  ∀ (s : State) (type : Byte) (before after : List Byte) (a b : Byte) (len c : Half) (rest : List Turn),
    s.Inv → s.fe.rxState = .waitStart → s.fe.chan.pending s.cfg = [] →
    s.fe.chan.txq.length + 2 ≤ s.cfg.txqCap → IsPacketType type → a ≠ b →
    len.toNat = before.length + 1 + after.length → len ≤ s.fe.mps →
    c = crc16Ccitt 0 ([0x5A, type, lo len, hi len] ++ before ++ a :: after) →
    ∃ t : State,
      runTurns s (feed .fe ([0x5A, type, lo len, hi len, lo c, hi c] ++ before ++ b :: after)) rest = .next t ∧
      t.agenda = rest ∧ t.fe.rxState = .waitStart ∧ t.fe.chan.pending s.cfg = [] ∧
      t.fe.dlvValid = s.fe.dlvValid ∧ t.fe.dlvType = s.fe.dlvType ∧ t.fe.dlvLen = s.fe.dlvLen ∧
      t.fe.dlvPayload = s.fe.dlvPayload ∧ t.fe.isAckAbortNeeded = s.fe.isAckAbortNeeded ∧
      t.fe.chan.txq = s.fe.chan.txq ++ [0x5A, 0xA2] ∧ t.fe.chan.evq = s.fe.chan.evq ∧
      t.fe.isBackToBackWrite = s.fe.isBackToBackWrite ∧ t.fe.txCopy = s.fe.txCopy ∧
      t.fe.txCopyType = s.fe.txCopyType ∧ t.fe.txRetry = s.fe.txRetry ∧ t.fe.timer = s.fe.timer ∧
      t.fe.mps = s.fe.mps ∧ t.fe.chan.rxOverflow = s.fe.chan.rxOverflow ∧
      { t with fe := s.fe, agenda := s.agenda } = s

/-! ## XR: host commands and tick -/

/-- R221, R271: XR_START and XT_START. -/
def Obligations.StartCommandsOpenATransfer : Prop :=
  (∀ (mode : Byte) (s : State),
      (2 ≤ mode.toNat → exec (.xrStart mode) s = .next { s with response := some ⟨.invalid, .none⟩ }) ∧
      (mode.toNat ≤ 1 → s.xr.state.active = true →
        exec (.xrStart mode) s = .next { s with response := some ⟨.busy, .none⟩ }) ∧
      (mode.toNat ≤ 1 → s.xr.state.active = false → s.cfg.txqCap ≤ s.xr.chan.txq.length →
        exec (.xrStart mode) s = .next { s with response := some ⟨.busy, .none⟩ }) ∧
      (mode.toNat ≤ 1 → s.xr.state.active = false → s.xr.chan.txq.length < s.cfg.txqCap →
        exec (.xrStart mode) s = .next { s with
          xr := { s.xr with
            mode := if mode = 1 then .crc else .checksum
            first := true, expectedSeq := 0x01, retry := 0, rxSeq := 0, size1k := false, count := 0, tcount := 0
            state := .waitHeader, timer := s.cfg.xrTimeout
            chan := { s.xr.chan with txq := s.xr.chan.txq ++ [if mode = 1 then 0x43 else 0x15] } }
          response := some ⟨.ok, .none⟩ })) ∧
  (∀ s : State,
      (s.xt.state.active = true → exec .xtStart s = .next { s with response := some ⟨.busy, .none⟩ }) ∧
      (s.xt.state.active = false → exec .xtStart s = .next { s with
        xt := { s.xt with
          mode := .checksum, seq := 0x01, retry := 0, total := 0, dataLen := 0, short := false, sent := 0, tidx := false
          timer := 0, state := .awaitMode }
        response := some ⟨.ok, .none⟩ }))

/-- R222, R272: XR_CANCEL and XT_CANCEL. -/
def Obligations.HostCancelQueuesThreeCans : Prop :=
  ∀ s : State,
    (s.xr.state.active = false → exec .xrCancel s = .next { s with response := some ⟨.invalid, .none⟩ }) ∧
    (s.xr.state.active = true → s.cfg.txqCap - s.xr.chan.txq.length < 3 →
      exec .xrCancel s = .next { s with response := some ⟨.busy, .none⟩ }) ∧
    (s.xr.state.active = true → 3 ≤ s.cfg.txqCap - s.xr.chan.txq.length → exec .xrCancel s = .next { s with
      xr := { s.xr with
        state := .cancelled, timer := 0
        chan := { s.xr.chan with txq := s.xr.chan.txq ++ [0x18, 0x18, 0x18] } }
      response := some ⟨.ok, .none⟩ }) ∧
    (s.xt.state.active = false → exec .xtCancel s = .next { s with response := some ⟨.invalid, .none⟩ }) ∧
    (s.xt.state.active = true → s.cfg.txqCap - s.xt.chan.txq.length < 3 →
      exec .xtCancel s = .next { s with response := some ⟨.busy, .none⟩ }) ∧
    (s.xt.state.active = true → 3 ≤ s.cfg.txqCap - s.xt.chan.txq.length → exec .xtCancel s = .next { s with
      xt := { s.xt with
        state := .cancelled, timer := 0
        chan := { s.xt.chan with txq := s.xt.chan.txq ++ [0x18, 0x18, 0x18] } }
      response := some ⟨.ok, .none⟩ })

/-! ## XR: bytes -/

/-- R227, R228 (with R224): SOH and STX open a frame. -/
def Obligations.XrHeaderOpensAFrame : Prop :=
  ∀ s : State, s.xr.state = .waitHeader →
    (s.xr.chan.rxHead = some 0x01 → exec .xrSoh s = .next { s with
      xr := { s.xr with
        size1k := false, count := 0, tcount := 0, state := .waitSequence
        timer := s.cfg.xrTimeout, chan := s.xr.chan.consume s.cfg } }) ∧
    (s.xr.chan.rxHead = some 0x02 → exec .xrStx s = .next { s with
      xr := { s.xr with
        size1k := true, count := 0, tcount := 0, state := .waitSequence
        timer := s.cfg.xrTimeout, chan := s.xr.chan.consume s.cfg } })

/-- R229, R230, R233 (with R224): EOT and CAN end the transfer in WAIT_HEADER and as a complement byte that does not
match; such an ACK is ignored; every other such byte takes the failure path (`XrFailurePathCountsRetries`). -/
def Obligations.XrEotAndCanEndTheTransfer : Prop :=
  (∀ s : State, s.xr.state = .waitHeader → s.xr.chan.rxHead = some 0x04 →
      (s.xr.chan.txq.length < s.cfg.txqCap → s.xr.chan.evq.length < s.cfg.evqCap → exec .xrEot s = .next { s with
        xr := { s.xr with
          state := .done, timer := 0
          chan := { s.xr.chan.consume s.cfg with
            txq := s.xr.chan.txq ++ [0x06], evq := s.xr.chan.evq ++ [.xrDone (s.xr.expectedSeq - 1)] } } }) ∧
      (s.cfg.txqCap ≤ s.xr.chan.txq.length ∨ s.cfg.evqCap ≤ s.xr.chan.evq.length → exec .xrEot s = .next s)) ∧
  (∀ s : State, s.xr.state = .waitHeader → s.xr.chan.rxHead = some 0x18 →
      (s.xr.chan.evq.length < s.cfg.evqCap → exec .xrCan s = .next { s with
        xr := { s.xr with
          state := .cancelled, timer := 0
          chan := { s.xr.chan.consume s.cfg with
            evq := s.xr.chan.evq ++ [.xrCancelled s.xr.expectedSeq] } } }) ∧
      (s.cfg.evqCap ≤ s.xr.chan.evq.length → exec .xrCan s = .next s)) ∧
  (∀ (s : State) (b : Byte), s.xr.chan.rxHead = some b → s.xr.state = .waitSequenceComplement → b ≠ ~~~s.xr.rxSeq →
      (b = 0x18 → s.xr.chan.evq.length < s.cfg.evqCap → takeTurn (.byteStep .xr) s = .next { s with
        xr := { s.xr with
          state := .cancelled, timer := 0
          chan := { s.xr.chan.consume s.cfg with
            evq := s.xr.chan.evq ++ [.xrCancelled s.xr.expectedSeq] } } }) ∧
      (b = 0x18 → s.cfg.evqCap ≤ s.xr.chan.evq.length → takeTurn (.byteStep .xr) s = .next s) ∧
      (b = 0x04 → s.xr.chan.txq.length < s.cfg.txqCap → s.xr.chan.evq.length < s.cfg.evqCap →
        takeTurn (.byteStep .xr) s = .next { s with
          xr := { s.xr with
            state := .done, timer := 0
            chan := { s.xr.chan.consume s.cfg with
              txq := s.xr.chan.txq ++ [0x06], evq := s.xr.chan.evq ++ [.xrDone (s.xr.expectedSeq - 1)] } } }) ∧
      (b = 0x04 → s.cfg.txqCap ≤ s.xr.chan.txq.length ∨ s.cfg.evqCap ≤ s.xr.chan.evq.length →
        takeTurn (.byteStep .xr) s = .next s) ∧
      (b = 0x06 → takeTurn (.byteStep .xr) s = .next { s with
        xr := { s.xr with
          state := .waitHeader, timer := s.cfg.xrTimeout, chan := s.xr.chan.consume s.cfg } }))

/-- R226, R231, R232 (a match), R234, R235 (the first of two trailer bytes), with R224: the XR bytes that need no room.
Outside a transfer, where the timer is off (R34), a byte is consumed and no other field changes. -/
def Obligations.XrReadsAFrame : Prop :=
  ∀ (s : State) (b : Byte), s.xr.chan.rxHead = some b →
    (s.xr.state.active = false → s.xr.timer = 0 → takeTurn (.byteStep .xr) s = .next { s with
      xr := { s.xr with chan := s.xr.chan.consume s.cfg } }) ∧
    (s.xr.state = .waitHeader →
      (b = 0x01 → takeTurn (.byteStep .xr) s = exec .xrSoh s) ∧
      (b = 0x02 → takeTurn (.byteStep .xr) s = exec .xrStx s) ∧
      (b = 0x04 → takeTurn (.byteStep .xr) s = exec .xrEot s) ∧
      (b = 0x18 → takeTurn (.byteStep .xr) s = exec .xrCan s) ∧
      (b ≠ 0x01 → b ≠ 0x02 → b ≠ 0x04 → b ≠ 0x18 → takeTurn (.byteStep .xr) s = .next { s with
        xr := { s.xr with timer := s.cfg.xrTimeout, chan := s.xr.chan.consume s.cfg } })) ∧
    (s.xr.state = .waitSequence → takeTurn (.byteStep .xr) s = .next { s with
      xr := { s.xr with
        rxSeq := b, state := .waitSequenceComplement
        timer := s.cfg.xrTimeout, chan := s.xr.chan.consume s.cfg } }) ∧
    (s.xr.state = .waitSequenceComplement → b.toNat = 255 - s.xr.rxSeq.toNat →
      takeTurn (.byteStep .xr) s = .next { s with
        xr := { s.xr with
          count := 0, tcount := 0, state := .receiveData
          timer := s.cfg.xrTimeout, chan := s.xr.chan.consume s.cfg } }) ∧
    (s.xr.state = .receiveData → s.xr.count.toNat < (if s.xr.size1k then 1024 else 128) →
      takeTurn (.byteStep .xr) s = .next { s with
        xr := { s.xr with
          buf := s.xr.buf.set s.xr.count.toNat b, count := s.xr.count + 1
          timer := s.cfg.xrTimeout, chan := s.xr.chan.consume s.cfg } }) ∧
    (s.xr.state = .receiveData → s.xr.count.toNat = (if s.xr.size1k then 1024 else 128) → s.xr.mode = .crc →
      s.xr.tcount = 0 → takeTurn (.byteStep .xr) s = .next { s with
        xr := { s.xr with
          trailer0 := b, tcount := 1
          timer := s.cfg.xrTimeout, chan := s.xr.chan.consume s.cfg } })

/-- R235, R236, R237 (with R224): the step that consumes the last trailer byte `b` of a good frame accepts it; `y` is XR
with that byte stored. -/
def Obligations.XrAcceptsAGoodFrame : Prop :=
  ∀ (s : State) (b : Byte) (N : Nat) (y : Xr), s.xr.chan.rxHead = some b → s.xr.state = .receiveData →
    N = (if s.xr.size1k then 1024 else 128) → s.xr.count.toNat = N →
    ((s.xr.mode = .checksum ∧ s.xr.tcount = 0 ∧ y = { s.xr with trailer0 := b } ∧
        b = sum8 (s.xr.buf.take N)) ∨
      (s.xr.mode = .crc ∧ s.xr.tcount = 1 ∧ y = { s.xr with trailer1 := b } ∧
        256 * s.xr.trailer0.toNat + b.toNat = (crc16Ccitt 0 (s.xr.buf.take N)).toNat)) →
    s.xr.rxSeq = s.xr.expectedSeq →
    (s.xr.chan.txq.length < s.cfg.txqCap → s.xr.chan.evq.length < s.cfg.evqCap →
      takeTurn (.byteStep .xr) s = .next { s with
        xr := { y with
          count := 0, tcount := 0, expectedSeq := s.xr.expectedSeq + 1, retry := 0, first := false
          state := .waitHeader, timer := s.cfg.xrTimeout
          chan := { s.xr.chan.consume s.cfg with
            txq := s.xr.chan.txq ++ [0x06]
            evq := s.xr.chan.evq ++ [.xrFrame s.xr.rxSeq (BitVec.ofNat 16 N) (s.xr.buf.take N)] } } }) ∧
    (s.cfg.txqCap ≤ s.xr.chan.txq.length ∨ s.cfg.evqCap ≤ s.xr.chan.evq.length →
      takeTurn (.byteStep .xr) s = .next s)

/-- R236, R238, R240 (with R224): a bad frame and an unclassified complement mismatch take one failure path; `y` is XR
with the byte stored and, for a frame, the counts cleared. -/
def Obligations.XrFailurePathCountsRetries : Prop :=
  ∀ (s : State) (b : Byte) (N : Nat) (y : Xr), s.xr.chan.rxHead = some b →
    N = (if s.xr.size1k then 1024 else 128) →
    ((s.xr.state = .waitSequenceComplement ∧ b ≠ ~~~s.xr.rxSeq ∧ b ≠ 0x18 ∧ b ≠ 0x04 ∧ b ≠ 0x06 ∧ y = s.xr) ∨
      (s.xr.state = .receiveData ∧ s.xr.count.toNat = N ∧ s.xr.mode = .checksum ∧ s.xr.tcount = 0 ∧
        (s.xr.rxSeq ≠ s.xr.expectedSeq ∨ b ≠ sum8 (s.xr.buf.take N)) ∧
        y = { s.xr with trailer0 := b, count := 0, tcount := 0 }) ∨
      (s.xr.state = .receiveData ∧ s.xr.count.toNat = N ∧ s.xr.mode = .crc ∧ s.xr.tcount = 1 ∧
        (s.xr.rxSeq ≠ s.xr.expectedSeq ∨
          256 * s.xr.trailer0.toNat + b.toNat ≠ (crc16Ccitt 0 (s.xr.buf.take N)).toNat) ∧
        y = { s.xr with trailer1 := b, count := 0, tcount := 0 })) →
    (s.xr.retry = s.cfg.xrMaxRetries → s.xr.chan.evq.length < s.cfg.evqCap →
      takeTurn (.byteStep .xr) s = .next { s with
        xr := { y with
          state := .failed, timer := 0
          chan := { s.xr.chan.consume s.cfg with
            evq := s.xr.chan.evq ++ [.xrBadMessage s.xr.expectedSeq] } } }) ∧
    (s.xr.retry = s.cfg.xrMaxRetries → s.cfg.evqCap ≤ s.xr.chan.evq.length →
      takeTurn (.byteStep .xr) s = .next s) ∧
    (s.xr.retry ≠ s.cfg.xrMaxRetries → s.xr.chan.txq.length < s.cfg.txqCap →
      takeTurn (.byteStep .xr) s = .next { s with
        xr := { y with
          retry := s.xr.retry + 1, state := .waitHeader, timer := s.cfg.xrTimeout
          chan := { s.xr.chan.consume s.cfg with
            txq := s.xr.chan.txq ++ [if s.xr.first = true ∧ s.xr.mode = .crc then 0x43 else 0x15] } } }) ∧
    (s.xr.retry ≠ s.cfg.xrMaxRetries → s.cfg.txqCap ≤ s.xr.chan.txq.length →
      takeTurn (.byteStep .xr) s = .next s)

/-- R110, R226 to R237 (E4): a whole frame with the expected sequence number, in either size and either mode, fed to an
XR that waits for a header, is accepted: one XR_FRAME with its data, one ACK, the sequence number up by one. -/
def Obligations.XrReceivesAWholeFrame : Prop :=
  ∀ (s : State) (data trailer : List Byte) (large : Bool) (rest : List Turn),
    s.Inv → s.xr.state = .waitHeader → s.xr.chan.pending s.cfg = [] →
    s.xr.chan.txq.length < s.cfg.txqCap → s.xr.chan.evq.length < s.cfg.evqCap →
    data.length = (if large then 1024 else 128) →
    trailer = (match s.xr.mode with
      | .checksum => [sum8 data]
      | .crc => [hi (crc16Ccitt 0 data), lo (crc16Ccitt 0 data)]) →
    ∃ t : State,
      runTurns s (feed .xr
        ([if large then 0x02 else 0x01, s.xr.expectedSeq, ~~~s.xr.expectedSeq] ++ data ++ trailer)) rest = .next t ∧
      t.agenda = rest ∧ t.xr.state = .waitHeader ∧ t.xr.chan.pending s.cfg = [] ∧
      t.xr.chan.evq = s.xr.chan.evq ++ [.xrFrame s.xr.expectedSeq (if large then 1024 else 128) data] ∧
      t.xr.chan.txq = s.xr.chan.txq ++ [0x06] ∧
      t.xr.expectedSeq = s.xr.expectedSeq + 1 ∧ t.xr.first = false ∧ t.xr.retry = 0 ∧ t.xr.mode = s.xr.mode ∧
      t.xr.timer = s.cfg.xrTimeout ∧ t.xr.chan.rxOverflow = s.xr.chan.rxOverflow ∧
      { t with xr := s.xr, agenda := s.agenda } = s

/-- R236, R238, R240 (E4): the same frame with one wrong data byte is not accepted: while retries remain, one retry byte
is queued, no event is posted and the same sequence number is still expected. -/
def Obligations.XrRefusesACorruptedFrame : Prop :=
  ∀ (s : State) (before after trailer : List Byte) (a b : Byte) (large : Bool) (rest : List Turn),
    s.Inv → s.xr.state = .waitHeader → s.xr.chan.pending s.cfg = [] →
    s.xr.chan.txq.length < s.cfg.txqCap → s.xr.retry ≠ s.cfg.xrMaxRetries → a ≠ b →
    before.length + 1 + after.length = (if large then 1024 else 128) →
    trailer = (match s.xr.mode with
      | .checksum => [sum8 (before ++ a :: after)]
      | .crc => [hi (crc16Ccitt 0 (before ++ a :: after)), lo (crc16Ccitt 0 (before ++ a :: after))]) →
    ∃ t : State,
      runTurns s (feed .xr
        ([if large then 0x02 else 0x01, s.xr.expectedSeq, ~~~s.xr.expectedSeq] ++ (before ++ b :: after) ++ trailer))
          rest = .next t ∧
      t.agenda = rest ∧ t.xr.state = .waitHeader ∧ t.xr.chan.pending s.cfg = [] ∧
      t.xr.chan.evq = s.xr.chan.evq ∧
      t.xr.chan.txq = s.xr.chan.txq ++ [if s.xr.first = true ∧ s.xr.mode = .crc then 0x43 else 0x15] ∧
      t.xr.expectedSeq = s.xr.expectedSeq ∧ t.xr.first = s.xr.first ∧ t.xr.retry = s.xr.retry + 1 ∧
      t.xr.mode = s.xr.mode ∧ t.xr.timer = s.cfg.xrTimeout ∧ t.xr.chan.rxOverflow = s.xr.chan.rxOverflow ∧
      { t with xr := s.xr, agenda := s.agenda } = s

/-- R241, first two bullets: a step that changes `expected_seq` is XR_START or reset, which make it 1, or the acceptance
of a frame, which adds 1 and, in the same step, queues exactly one ACK and posts exactly one XR_FRAME of that number;
and no other step posts an XR_FRAME. -/
def Obligations.XrSequenceAdvancesOncePerFrame : Prop :=
  ∀ (s t : State) (turn : Turn), takeTurn turn s = .next t →
    (t.xr.expectedSeq = s.xr.expectedSeq ∨
      (t.xr.expectedSeq = 1 ∧
        (turn = .reset ∨ ∃ (c : Command) (m : Byte), turn = .command c ∧ decode (.command c) = .instr (.xrStart m))) ∨
      (t.xr.expectedSeq = s.xr.expectedSeq + 1 ∧ turn = .byteStep .xr)) ∧
    (∀ q z d, Event.xrFrame q z d ∈ t.xr.chan.evq → Event.xrFrame q z d ∈ s.xr.chan.evq ∨
      (turn = .byteStep .xr ∧ q = s.xr.expectedSeq ∧ t.xr.expectedSeq = s.xr.expectedSeq + 1 ∧
        t.xr.chan.evq = s.xr.chan.evq ++ [.xrFrame q z d] ∧ t.xr.chan.txq = s.xr.chan.txq ++ [0x06])) ∧
    (turn = .byteStep .xr → t.xr.expectedSeq ≠ s.xr.expectedSeq →
      ∃ z d, t.xr.chan.evq = s.xr.chan.evq ++ [.xrFrame s.xr.expectedSeq z d] ∧
        t.xr.chan.txq = s.xr.chan.txq ++ [0x06])

/-! ## XT: host commands and tick -/

/-- R280: XT_SEND_FRAME. -/
def Obligations.XtSendFramePadsAndArms : Prop :=
  ∀ (n : Half) (bytes : List Byte) (s : State) (FS : Nat),
    FS = (if s.xt.mode = .crc then 1024 else 128) →
    (s.xt.state.active = false →
      exec (.xtSendFrame n bytes) s = .next { s with response := some ⟨.invalid, .none⟩ }) ∧
    (s.xt.state.active = true → s.xt.state ≠ .waitFrame →
      exec (.xtSendFrame n bytes) s = .next { s with response := some ⟨.busy, .none⟩ }) ∧
    (s.xt.state = .waitFrame → (n.toNat < 1 ∨ FS < n.toNat ∨ bytes.length ≠ n.toNat) →
      exec (.xtSendFrame n bytes) s = .next { s with response := some ⟨.invalid, .none⟩ }) ∧
    (s.xt.state = .waitFrame → 1 ≤ n.toNat → n.toNat ≤ FS → bytes.length = n.toNat →
      exec (.xtSendFrame n bytes) s = .next { s with
        xt := { s.xt with
          buf := bytes ++ List.replicate (FS - n.toNat) 0x1A ++ s.xt.buf.drop FS
          dataLen := BitVec.ofNat 11 n.toNat, short := decide (n.toNat < FS)
          sent := 0, tidx := false, retry := 0, state := .sendHeader }
        response := some ⟨.ok, .none⟩ })

/-- R291: XT_OVER. -/
def Obligations.XtOverSendsEot : Prop :=
  ∀ s : State,
    (s.xt.state.active = false → exec .xtOver s = .next { s with response := some ⟨.invalid, .none⟩ }) ∧
    (s.xt.state.active = true → s.xt.state ≠ .waitFrame →
      exec .xtOver s = .next { s with response := some ⟨.busy, .none⟩ }) ∧
    (s.xt.state = .waitFrame → s.cfg.txqCap ≤ s.xt.chan.txq.length →
      exec .xtOver s = .next { s with response := some ⟨.busy, .none⟩ }) ∧
    (s.xt.state = .waitFrame → s.xt.chan.txq.length < s.cfg.txqCap → exec .xtOver s = .next { s with
      xt := { s.xt with
        retry := 0, state := .awaitEotAck, timer := s.cfg.xtAckTimeout
        chan := { s.xt.chan with txq := s.xt.chan.txq ++ [0x04] } }
      response := some ⟨.ok, .none⟩ })

/-! ## XT: bytes -/

/-- R276, R277: 'C' and NAK in AWAIT_MODE; R278: CAN in any active state. -/
def Obligations.XtModeAndCanTokens : Prop :=
  (∀ s : State, s.xt.state = .awaitMode →
      (s.xt.chan.rxHead = some 0x43 → s.xt.chan.evq.length < s.cfg.evqCap → exec .xtModeCrc s = .next { s with
        xt := { s.xt with
          mode := .crc, state := .waitFrame
          chan := { s.xt.chan.consume s.cfg with evq := s.xt.chan.evq ++ [.xtReady 1] } } }) ∧
      (s.xt.chan.rxHead = some 0x43 → s.cfg.evqCap ≤ s.xt.chan.evq.length → exec .xtModeCrc s = .next s) ∧
      (s.xt.chan.rxHead = some 0x15 → s.xt.chan.evq.length < s.cfg.evqCap → exec .xtModeChecksum s = .next { s with
        xt := { s.xt with
          mode := .checksum, state := .waitFrame
          chan := { s.xt.chan.consume s.cfg with evq := s.xt.chan.evq ++ [.xtReady 0] } } }) ∧
      (s.xt.chan.rxHead = some 0x15 → s.cfg.evqCap ≤ s.xt.chan.evq.length → exec .xtModeChecksum s = .next s)) ∧
  (∀ s : State, s.xt.state.active = true → s.xt.chan.rxHead = some 0x18 →
      takeTurn (.byteStep .xt) s = exec .xtCan s ∧
      (s.xt.chan.evq.length < s.cfg.evqCap → exec .xtCan s = .next { s with
        xt := { s.xt with
          state := .cancelled, timer := 0
          chan := { s.xt.chan.consume s.cfg with evq := s.xt.chan.evq ++ [.xtCancelled s.xt.seq] } } }) ∧
      (s.cfg.evqCap ≤ s.xt.chan.evq.length → exec .xtCan s = .next s))

/-- R289: ACK in AWAIT_ACK. -/
def Obligations.XtAckAdvancesTheFrame : Prop :=
  ∀ s : State, s.xt.state = .awaitAck → s.xt.chan.rxHead = some 0x06 →
    (s.xt.short = false → s.xt.chan.evq.length < s.cfg.evqCap → exec .xtAck s = .next { s with
      xt := { s.xt with
        total := BitVec.ofNat 32 (s.xt.total.toNat + s.xt.dataLen.toNat), seq := s.xt.seq + 1, retry := 0
        state := .waitFrame, timer := 0
        chan := { s.xt.chan.consume s.cfg with
          evq := s.xt.chan.evq ++ [.xtAcked s.xt.seq (s.xt.dataLen.setWidth 16) 0] } } }) ∧
    (s.xt.short = true → s.xt.chan.evq.length < s.cfg.evqCap → s.xt.chan.txq.length < s.cfg.txqCap →
      exec .xtAck s = .next { s with
        xt := { s.xt with
          total := BitVec.ofNat 32 (s.xt.total.toNat + s.xt.dataLen.toNat), seq := s.xt.seq + 1, retry := 0
          state := .awaitEotAck, timer := s.cfg.xtAckTimeout
          chan := { s.xt.chan.consume s.cfg with
            txq := s.xt.chan.txq ++ [0x04]
            evq := s.xt.chan.evq ++ [.xtAcked s.xt.seq (s.xt.dataLen.setWidth 16) 1] } } }) ∧
    (s.cfg.evqCap ≤ s.xt.chan.evq.length ∨ (s.xt.short = true ∧ s.cfg.txqCap ≤ s.xt.chan.txq.length) →
      exec .xtAck s = .next s)

/-- R290, R294: NAK in AWAIT_ACK. -/
def Obligations.XtNakResendsTheSameFrame : Prop :=
  ∀ (s : State) (room : Prop), s.xt.state = .awaitAck → s.xt.chan.rxHead = some 0x15 →
    (room ↔ 3 ≤ s.cfg.txqCap - s.xt.chan.txq.length ∧ s.xt.chan.evq.length < s.cfg.evqCap) →
    (s.xt.retry ≠ s.cfg.xtMaxRetries → exec .xtNak s = .next { s with
      xt := { s.xt with
        retry := s.xt.retry + 1, sent := 0, tidx := false, state := .sendHeader, timer := 0
        chan := s.xt.chan.consume s.cfg } }) ∧
    (s.xt.retry = s.cfg.xtMaxRetries → room → exec .xtNak s = .next { s with
      xt := { s.xt with
        state := .failed, timer := 0
        chan := { s.xt.chan.consume s.cfg with
          txq := s.xt.chan.txq ++ [0x18, 0x18, 0x18]
          evq := s.xt.chan.evq ++ [.xtRetriesExhausted s.xt.seq] } } }) ∧
    (s.xt.retry = s.cfg.xtMaxRetries → ¬room → exec .xtNak s = .next s)

/-- R292: the bytes of AWAIT_EOT_ACK. -/
def Obligations.XtEotIsAcknowledgedOrResent : Prop :=
  ∀ (s : State) (b : Byte) (room : Prop), s.xt.state = .awaitEotAck → s.xt.chan.rxHead = some b →
    (room ↔ 3 ≤ s.cfg.txqCap - s.xt.chan.txq.length ∧ s.xt.chan.evq.length < s.cfg.evqCap) →
    (b = 0x06 → takeTurn (.byteStep .xt) s = exec .xtAck s) ∧
    (b = 0x06 → s.xt.chan.evq.length < s.cfg.evqCap → exec .xtAck s = .next { s with
      xt := { s.xt with
        state := .done, timer := 0
        chan := { s.xt.chan.consume s.cfg with evq := s.xt.chan.evq ++ [.xtDone s.xt.total] } } }) ∧
    (b = 0x06 → s.cfg.evqCap ≤ s.xt.chan.evq.length → exec .xtAck s = .next s) ∧
    (b = 0x15 → takeTurn (.byteStep .xt) s = exec .xtNak s) ∧
    (b = 0x15 → s.xt.retry = s.cfg.xtMaxRetries → room → exec .xtNak s = .next { s with
      xt := { s.xt with
        state := .failed, timer := 0
        chan := { s.xt.chan.consume s.cfg with
          txq := s.xt.chan.txq ++ [0x18, 0x18, 0x18]
          evq := s.xt.chan.evq ++ [.xtRetriesExhausted s.xt.seq] } } }) ∧
    (b = 0x15 → s.xt.retry = s.cfg.xtMaxRetries → ¬room → exec .xtNak s = .next s) ∧
    (b = 0x15 → s.xt.retry ≠ s.cfg.xtMaxRetries → s.xt.chan.txq.length < s.cfg.txqCap →
      exec .xtNak s = .next { s with
        xt := { s.xt with
          retry := s.xt.retry + 1, timer := s.cfg.xtAckTimeout
          chan := { s.xt.chan.consume s.cfg with txq := s.xt.chan.txq ++ [0x04] } } }) ∧
    (b = 0x15 → s.xt.retry ≠ s.cfg.xtMaxRetries → s.cfg.txqCap ≤ s.xt.chan.txq.length →
      exec .xtNak s = .next s) ∧
    (b = 0x18 → takeTurn (.byteStep .xt) s = exec .xtCan s) ∧
    (b ≠ 0x06 → b ≠ 0x15 → b ≠ 0x18 → takeTurn (.byteStep .xt) s = .next { s with
      xt := { s.xt with timer := s.cfg.xtAckTimeout, chan := s.xt.chan.consume s.cfg } })

/-- R274, R275, R279, R287, R288: which bytes XT acts on in the other states, and that it discards the rest. -/
def Obligations.XtDiscardsWhatItsStateIgnores : Prop :=
  ∀ (s : State) (b : Byte), s.xt.chan.rxHead = some b →
    (s.xt.state.active = false → takeTurn (.byteStep .xt) s = .next { s with
      xt := { s.xt with chan := s.xt.chan.consume s.cfg } }) ∧
    (s.xt.state = .awaitMode →
      (b = 0x43 → takeTurn (.byteStep .xt) s = exec .xtModeCrc s) ∧
      (b = 0x15 → takeTurn (.byteStep .xt) s = exec .xtModeChecksum s) ∧
      (b = 0x18 → takeTurn (.byteStep .xt) s = exec .xtCan s) ∧
      (b ≠ 0x43 → b ≠ 0x15 → b ≠ 0x18 → takeTurn (.byteStep .xt) s = .next { s with
        xt := { s.xt with chan := s.xt.chan.consume s.cfg } })) ∧
    (s.xt.state = .waitFrame ∨ s.xt.state = .sendHeader ∨ s.xt.state = .sendSequence ∨
        s.xt.state = .sendSequenceComplement ∨ s.xt.state = .sendData ∨ s.xt.state = .sendChecksum →
      (b = 0x18 → takeTurn (.byteStep .xt) s = exec .xtCan s) ∧
      (b ≠ 0x18 → takeTurn (.byteStep .xt) s = .next { s with
        xt := { s.xt with chan := s.xt.chan.consume s.cfg } })) ∧
    (s.xt.state = .awaitAck →
      (b = 0x06 → takeTurn (.byteStep .xt) s = exec .xtAck s) ∧
      (b = 0x15 → takeTurn (.byteStep .xt) s = exec .xtNak s) ∧
      (b = 0x18 → takeTurn (.byteStep .xt) s = exec .xtCan s) ∧
      (b ≠ 0x06 → b ≠ 0x15 → b ≠ 0x18 → takeTurn (.byteStep .xt) s = .next { s with
        xt := { s.xt with timer := s.cfg.xtAckTimeout, chan := s.xt.chan.consume s.cfg } }))

/-! ## XT: emission -/

/-- R281 to R286: what each emission step queues and where it leads; it is not enabled without room or outside the SEND
states. -/
def Obligations.XtEmitsOneBytePerStep : Prop :=
  ∀ s : State,
    (s.cfg.txqCap ≤ s.xt.chan.txq.length → takeTurn .emit s = .next s) ∧
    (s.xt.state ≠ .sendHeader → s.xt.state ≠ .sendSequence → s.xt.state ≠ .sendSequenceComplement →
      s.xt.state ≠ .sendData → s.xt.state ≠ .sendChecksum → takeTurn .emit s = .next s) ∧
    (s.xt.chan.txq.length < s.cfg.txqCap →
      (s.xt.state = .sendHeader → takeTurn .emit s = .next { s with
        xt := { s.xt with
          state := .sendSequence
          chan := { s.xt.chan with
            txq := s.xt.chan.txq ++ [if s.xt.mode = .crc then 0x02 else 0x01] } } }) ∧
      (s.xt.state = .sendSequence → takeTurn .emit s = .next { s with
        xt := { s.xt with
          state := .sendSequenceComplement
          chan := { s.xt.chan with txq := s.xt.chan.txq ++ [s.xt.seq] } } }) ∧
      (s.xt.state = .sendSequenceComplement → takeTurn .emit s = .next { s with
        xt := { s.xt with
          sent := 0, state := .sendData
          chan := { s.xt.chan with txq := s.xt.chan.txq ++ [~~~s.xt.seq] } } }) ∧
      (s.xt.state = .sendData → ∀ b : Byte, s.xt.buf[s.xt.sent.toNat]? = some b →
        (s.xt.sent + 1).toNat ≠ (if s.xt.mode = .crc then 1024 else 128) → takeTurn .emit s = .next { s with
          xt := { s.xt with
            sent := s.xt.sent + 1, chan := { s.xt.chan with txq := s.xt.chan.txq ++ [b] } } }) ∧
      (s.xt.state = .sendData → ∀ b : Byte, s.xt.buf[s.xt.sent.toNat]? = some b →
        (s.xt.sent + 1).toNat = (if s.xt.mode = .crc then 1024 else 128) → takeTurn .emit s = .next { s with
          xt := { s.xt with
            sent := s.xt.sent + 1, tidx := false, state := .sendChecksum
            chan := { s.xt.chan with txq := s.xt.chan.txq ++ [b] } } }) ∧
      (s.xt.state = .sendChecksum → s.xt.mode = .checksum → takeTurn .emit s = .next { s with
        xt := { s.xt with
          state := .awaitAck, timer := s.cfg.xtAckTimeout
          chan := { s.xt.chan with txq := s.xt.chan.txq ++ [sum8 (s.xt.buf.take 128)] } } }) ∧
      (s.xt.state = .sendChecksum → s.xt.mode = .crc → s.xt.tidx = false → takeTurn .emit s = .next { s with
        xt := { s.xt with
          tidx := true
          chan := { s.xt.chan with
            txq := s.xt.chan.txq ++ [hi (crc16Ccitt 0 (s.xt.buf.take 1024))] } } }) ∧
      (s.xt.state = .sendChecksum → s.xt.mode = .crc → s.xt.tidx = true → takeTurn .emit s = .next { s with
        xt := { s.xt with
          tidx := false, state := .awaitAck, timer := s.cfg.xtAckTimeout
          chan := { s.xt.chan with
            txq := s.xt.chan.txq ++ [lo (crc16Ccitt 0 (s.xt.buf.take 1024))] } } }))

/-- R295, R110, R281 to R286: the emission steps of a frame queue exactly its `3 + FS + T` bytes, contiguous and in order,
and leave XT awaiting the acknowledgement; nothing else changes. -/
def Obligations.XtEmitsExactlyTheFrame : Prop :=
  ∀ (s : State) (FS T : Nat) (d trailer : List Byte) (rest : List Turn),
    s.Inv → s.xt.state = .sendHeader → s.xt.tidx = false →
    FS = (if s.xt.mode = .crc then 1024 else 128) → T = (if s.xt.mode = .crc then 2 else 1) →
    d = s.xt.buf.take FS →
    trailer = (match s.xt.mode with
      | .checksum => [sum8 d]
      | .crc => [hi (crc16Ccitt 0 d), lo (crc16Ccitt 0 d)]) →
    s.xt.chan.txq.length + (3 + FS + T) ≤ s.cfg.txqCap →
    runTurns s (List.replicate (3 + FS + T) .emit) rest = .next { s with
      agenda := rest
      xt := { s.xt with
        state := .awaitAck, sent := BitVec.ofNat 11 FS, tidx := false, timer := s.cfg.xtAckTimeout
        chan := { s.xt.chan with
          txq := s.xt.chan.txq ++ [if s.xt.mode = .crc then 0x02 else 0x01, s.xt.seq, ~~~s.xt.seq] ++ d
            ++ trailer } } }

/-- R295, last bullet: `seq` changes only by +1, with the XT_ACKED of that number, or by XT_START or reset, which make it
1. -/
def Obligations.XtSequenceAdvancesOncePerAck : Prop :=
  ∀ (s t : State) (turn : Turn), takeTurn turn s = .next t →
    t.xt.seq = s.xt.seq ∨
    (t.xt.seq = 1 ∧ (turn = .reset ∨ ∃ c : Command, turn = .command c ∧ decode (.command c) = .instr .xtStart)) ∨
    (t.xt.seq = s.xt.seq + 1 ∧ turn = .byteStep .xt ∧ s.xt.state = .awaitAck ∧
      ∃ n l, t.xt.chan.evq = s.xt.chan.evq ++ [.xtAcked s.xt.seq n l])

/-! ## Channels -/

/-- R72, R73, R74, R84, D4: the receive ring is a FIFO of `P_RXQ_CAP - 1` bytes: a push appends, or drops the byte and
sets the overflow flag when the ring is full; the head is the oldest byte; a consume removes it and leaves the flag; a push
leaves both queues and the read offset. On the whole block, a push by the peer of a unit is that push on that unit's ring,
and nothing else changes. -/
def Obligations.ReceiveRingIsAFifo : Prop :=
  (∀ (c : Config) (u : UnitId) (ch : Channel) (b : Byte), c.Legal → ch.Wf c u →
    (ch.pending c).length ≤ c.rxqCap - 1 ∧
    ch.rxHead = (ch.pending c).head? ∧
    (ch.pending c ≠ [] → (ch.consume c).pending c = (ch.pending c).tail) ∧
    (ch.consume c).rxOverflow = ch.rxOverflow ∧ (ch.consume c).txq = ch.txq ∧ (ch.consume c).evq = ch.evq ∧
    ((ch.pending c).length < c.rxqCap - 1 →
      (ch.rxPush c b).pending c = ch.pending c ++ [b] ∧ (ch.rxPush c b).rxOverflow = ch.rxOverflow) ∧
    ((ch.pending c).length = c.rxqCap - 1 → ch.rxPush c b = { ch with rxOverflow := true }) ∧
    (ch.rxPush c b).readOffset = ch.readOffset ∧ (ch.rxPush c b).txq = ch.txq ∧ (ch.rxPush c b).evq = ch.evq) ∧
  ∀ (s : State) (b : Byte),
    takeTurn (.rxPush .fe b) s = .next { s with fe := { s.fe with chan := s.fe.chan.rxPush s.cfg b } } ∧
    takeTurn (.rxPush .xr b) s = .next { s with xr := { s.xr with chan := s.xr.chan.rxPush s.cfg b } } ∧
    takeTurn (.rxPush .xt b) s = .next { s with xt := { s.xt with chan := s.xt.chan.rxPush s.cfg b } }

/-- R76: a transmit pop removes the head byte of the unit's queue, which is the next byte on the wire, and changes
nothing else in the block (the byte is shown in the model's `wire`, log 6). -/
def Obligations.TransmitPopTakesTheHeadByte : Prop :=
  ∀ s : State,
    (∀ b q, s.fe.chan.txq = b :: q → takeTurn (.txPop .fe) s = .next { s with
      fe := { s.fe with chan := { s.fe.chan with txq := q } }, wire := some (.fe, b) }) ∧
    (∀ b q, s.xr.chan.txq = b :: q → takeTurn (.txPop .xr) s = .next { s with
      xr := { s.xr with chan := { s.xr.chan with txq := q } }, wire := some (.xr, b) }) ∧
    (∀ b q, s.xt.chan.txq = b :: q → takeTurn (.txPop .xt) s = .next { s with
      xt := { s.xt with chan := { s.xt.chan with txq := q } }, wire := some (.xt, b) }) ∧
    (s.fe.chan.txq = [] → takeTurn (.txPop .fe) s = .next s) ∧
    (s.xr.chan.txq = [] → takeTurn (.txPop .xr) s = .next s) ∧
    (s.xt.chan.txq = [] → takeTurn (.txPop .xt) s = .next s)

/-! ## The whole block -/

/-- R73, R78: a byte step happens wholly or not at all: it leaves the block as it is, or it consumes exactly the head
byte of its unit. -/
def Obligations.ByteStepsAreAllOrNothing : Prop :=
  ∀ (s t : State) (u : UnitId), takeTurn (.byteStep u) s = .next t →
    t = s ∨ ((∃ b, (s.chanOf u).rxHead = some b) ∧
      (t.chanOf u).readOffset = ((s.chanOf u).readOffset + 1) % s.cfg.rxqCap ∧
      (t.chanOf u).writeOffset = (s.chanOf u).writeOffset ∧ (t.chanOf u).rxBuf = (s.chanOf u).rxBuf ∧
      (t.chanOf u).rxOverflow = (s.chanOf u).rxOverflow ∧
      (∃ p, (t.chanOf u).txq = (s.chanOf u).txq ++ p) ∧ ∃ q, (t.chanOf u).evq = (s.chanOf u).evq ++ q)

/-- R343, R77: every step but EV_POP and reset leaves the records of each queue and adds at most one record in all;
EV_POP removes the head of one queue. -/
def Obligations.AtMostOneEventPerStep : Prop :=
  ∀ (s t : State) (turn : Turn), turn ≠ .reset → takeTurn turn s = .next t →
    (∃ a b c : List Event, t.fe.chan.evq = s.fe.chan.evq ++ a ∧ t.xr.chan.evq = s.xr.chan.evq ++ b ∧
      t.xt.chan.evq = s.xt.chan.evq ++ c ∧ a.length + b.length + c.length ≤ 1) ∨
    (∃ (k : Command) (u : Byte), turn = .command k ∧ decode (.command k) = .instr (.evPop u) ∧
      ∃ e, (s.fe.chan.evq = e :: t.fe.chan.evq ∧ t.xr = s.xr ∧ t.xt = s.xt) ∨
        (s.xr.chan.evq = e :: t.xr.chan.evq ∧ t.fe = s.fe ∧ t.xt = s.xt) ∨
        (s.xt.chan.evq = e :: t.xt.chan.evq ∧ t.fe = s.fe ∧ t.xr = s.xr))

/-- R354, R148, D1: no state is shared between units. What an instruction or a turn does to one unit depends on that unit
and the parameters alone, but that a retried tick depends on the unit's pending count as well (R64, log 8), and the
pending count depends on nothing else either; the parameters never change. -/
def Obligations.UnitsShareNoState : Prop :=
  ∀ (s s' t t' : State) (turn : Turn), s.cfg = s'.cfg → takeTurn turn s = .next t → takeTurn turn s' = .next t' →
    t.cfg = s.cfg ∧ t.agenda = s.agenda ∧
    (s.fe = s'.fe → (turn ≠ .retryTick .fe) → t.fe = t'.fe) ∧
    (s.xr = s'.xr → (turn ≠ .retryTick .xr) → t.xr = t'.xr) ∧
    (s.xt = s'.xt → (turn ≠ .retryTick .xt) → t.xt = t'.xt) ∧
    (s.fe = s'.fe → s.ticks.fe = s'.ticks.fe → t.fe = t'.fe ∧ t.ticks.fe = t'.ticks.fe) ∧
    (s.xr = s'.xr → s.ticks.xr = s'.ticks.xr → t.xr = t'.xr ∧ t.ticks.xr = t'.ticks.xr) ∧
    (s.xt = s'.xt → s.ticks.xt = s'.ticks.xt → t.xt = t'.xt ∧ t.ticks.xt = t'.ticks.xt) ∧
    (s.crcu = s'.crcu → t.crcu = t'.crcu)

/-- R349: in a terminal state XR and XT leave it only by their start command or reset, and until then post no event and
queue no byte. The second half is the model's reading of R224 against R225 (log 13): a byte outside a transfer leaves XR
with its timer off and is consumed, from every state, also one whose timer is on. -/
def Obligations.TerminalStatesLastUntilRestart : Prop :=
  (∀ (s t : State) (turn : Turn), takeTurn turn s = .next t → turn ≠ .reset → s.Inv →
    (s.xr.state = .done ∨ s.xr.state = .cancelled ∨ s.xr.state = .failed →
      (∀ m, fetch s turn = some (.command m) → ∀ v, decode (.command m) ≠ .instr (.xrStart v)) →
      t.xr.state = s.xr.state ∧ (∃ p, s.xr.chan.evq = p ++ t.xr.chan.evq) ∧
        (∃ p, s.xr.chan.txq = p ++ t.xr.chan.txq) ∧ t.xr.expectedSeq = s.xr.expectedSeq) ∧
    (s.xt.state = .done ∨ s.xt.state = .cancelled ∨ s.xt.state = .failed →
      (∀ m, fetch s turn = some (.command m) → decode (.command m) ≠ .instr .xtStart) →
      t.xt.state = s.xt.state ∧ (∃ p, s.xt.chan.evq = p ++ t.xt.chan.evq) ∧
        (∃ p, s.xt.chan.txq = p ++ t.xt.chan.txq) ∧ t.xt.seq = s.xt.seq ∧ t.xt.total = s.xt.total)) ∧
  ∀ (s : State) (b : Byte), s.xr.chan.rxHead = some b → s.xr.state.active = false →
    takeTurn (.byteStep .xr) s = .next { s with
      xr := { s.xr with timer := 0, chan := s.xr.chan.consume s.cfg } }

/-- R388, R352: a timer that holds `n > 0` expires on the n-th tick, not before, when the outputs of the expiry fit. -/
def Obligations.TimersExpireOnTheNthTick : Prop :=
  ∀ (s : State) (n : Nat) (rest : List Turn), n < 2 ^ 32 → 0 < n → s.cfg.Legal →
    (s.xr.timer = BitVec.ofNat 32 n → s.xr.chan.evq.length < s.cfg.evqCap →
      (∀ k, k < n → runTurns s (List.replicate k (.tick .xr)) rest = .next { s with
        agenda := rest, xr := { s.xr with timer := BitVec.ofNat 32 (n - k) } }) ∧
      runTurns s (List.replicate n (.tick .xr)) rest = .next { s with
        agenda := rest
        xr := { s.xr with
          timer := 0, state := .failed
          chan := { s.xr.chan with evq := s.xr.chan.evq ++ [.xrTimeout s.xr.expectedSeq] } } }) ∧
    (s.fe.timer = BitVec.ofNat 32 n → s.fe.chan.evq.length < s.cfg.evqCap →
      (∀ k, k < n → runTurns s (List.replicate k (.tick .fe)) rest = .next { s with
        agenda := rest, fe := { s.fe with timer := BitVec.ofNat 32 (n - k) } }) ∧
      runTurns s (List.replicate n (.tick .fe)) rest = .next { s with
        agenda := rest
        fe := { s.fe with
          timer := 0, isBackToBackWrite := false, txRetry := 0
          chan := { s.fe.chan with evq := s.fe.chan.evq ++ [.feTxTimeout s.fe.txCopyType] } } }) ∧
    (s.xt.timer = BitVec.ofNat 32 n → s.xt.chan.evq.length < s.cfg.evqCap →
      s.xt.chan.txq.length + 3 ≤ s.cfg.txqCap →
      (∀ k, k < n → runTurns s (List.replicate k (.tick .xt)) rest = .next { s with
        agenda := rest, xt := { s.xt with timer := BitVec.ofNat 32 (n - k) } }) ∧
      runTurns s (List.replicate n (.tick .xt)) rest = .next { s with
        agenda := rest
        xt := { s.xt with
          timer := 0, state := .failed
          chan := { s.xt.chan with
            txq := s.xt.chan.txq ++ [0x18, 0x18, 0x18], evq := s.xt.chan.evq ++ [.xtTimeout s.xt.seq] } } })

/-- The model's reading of R64 and D3 (log 8): a held tick is counted as pending with the tick source, a pending tick that
is tried again does what the tick would do and is used up, or is held again, and without a pending tick nothing
happens. -/
def Obligations.HeldTicksAreTriedAgain : Prop :=
  (∀ s : State, s.fe.timer = 1 → s.cfg.evqCap ≤ s.fe.chan.evq.length →
      takeTurn (.tick .fe) s = .next { s with ticks := { s.ticks with fe := s.ticks.fe + 1 } } ∧
      takeTurn (.retryTick .fe) s = .next s) ∧
  (∀ s : State, s.xr.timer = 1 → s.cfg.evqCap ≤ s.xr.chan.evq.length →
      takeTurn (.tick .xr) s = .next { s with ticks := { s.ticks with xr := s.ticks.xr + 1 } } ∧
      takeTurn (.retryTick .xr) s = .next s) ∧
  (∀ s : State, s.xt.timer = 1 →
      s.cfg.txqCap - s.xt.chan.txq.length < 3 ∨ s.cfg.evqCap ≤ s.xt.chan.evq.length →
      takeTurn (.tick .xt) s = .next { s with ticks := { s.ticks with xt := s.ticks.xt + 1 } } ∧
      takeTurn (.retryTick .xt) s = .next s) ∧
  (∀ (s t : State) (u : UnitId), takeTurn (.tick u) s = .next t → t.ticks = s.ticks →
      takeTurn (.retryTick u) { s with ticks := s.ticks.set u (s.ticks.get u + 1) } = .next t) ∧
  (∀ (s : State) (u : UnitId), s.ticks.get u = 0 → takeTurn (.retryTick u) s = .next s)

/-- R370, R371: reset sets every field the spec gives a reset value to that value, whatever the state was; the
parameters stay, and the registers read the values of R371. -/
def Obligations.ResetSetsEveryField : Prop :=
  ∀ s : State, ∃ t : State, takeTurn .reset s = .next t ∧
    t.cfg = s.cfg ∧
    (t.fe.rxState = .waitStart ∧ t.fe.pktType = 0 ∧ t.fe.pktLen = 0 ∧ t.fe.pktCrc = 0 ∧ t.fe.pktCount = 0 ∧
      t.fe.isAckNeeded = false ∧ t.fe.isAckAbortNeeded = false ∧ t.fe.isBackToBackWrite = false ∧ t.fe.mps = 32 ∧
      t.fe.dlvValid = false ∧ t.fe.dlvType = 0 ∧ t.fe.dlvLen = 0 ∧ t.fe.txCopy = [] ∧ t.fe.txCopyType = 0 ∧
      t.fe.txRetry = 0 ∧ t.fe.timer = 0) ∧
    (t.xr.state = .idle ∧ t.xr.mode = .checksum ∧ t.xr.first = true ∧ t.xr.expectedSeq = 1 ∧ t.xr.rxSeq = 0 ∧
      t.xr.size1k = false ∧ t.xr.count = 0 ∧ t.xr.tcount = 0 ∧ t.xr.trailer0 = 0 ∧ t.xr.trailer1 = 0 ∧
      t.xr.retry = 0 ∧ t.xr.timer = 0) ∧
    (t.xt.state = .idle ∧ t.xt.mode = .checksum ∧ t.xt.seq = 1 ∧ t.xt.dataLen = 0 ∧ t.xt.short = false ∧
      t.xt.sent = 0 ∧ t.xt.tidx = false ∧ t.xt.retry = 0 ∧ t.xt.total = 0 ∧ t.xt.timer = 0) ∧
    (t.crcu.acc = 0 ∧ t.crcu.mode = .ccitt) ∧
    (∀ u : UnitId, (t.chanOf u).readOffset = 0 ∧ (t.chanOf u).writeOffset = 0 ∧ (t.chanOf u).rxOverflow = false ∧
      (t.chanOf u).txq = [] ∧ (t.chanOf u).evq = []) ∧
    irqFe t = false ∧ irqXr t = false ∧ irqXt t = false ∧
    (readReg t 0x00 = some 0x00000020 ∧ readReg t 0x01 = some 0x00000100 ∧ readReg t 0x02 = some 0 ∧
      readReg t 0x03 = some 0x00000120 ∧ readReg t 0x04 = some 0x00004000 ∧ readReg t 0x05 = some 0 ∧
      readReg t 0x06 = some 0x02000100 ∧ readReg t 0x07 = some 0 ∧ readReg t 0x08 = some 0 ∧
      readReg t 0x09 = some 0 ∧ readReg t 0x0A = some 0)

/-- The reset state is safe, for every legal choice of the parameters. -/
def Obligations.ResetIsSafe : Prop :=
  State.reset.Inv ∧ ∀ c : Config, c.Legal → (State.resetWith c).Inv

/-- R24, R34, R44, R49, R342: every step keeps the invariants of every unit. -/
def Obligations.EveryStepKeepsTheInvariants : Prop :=
  ∀ s t : State, s.Inv → step s = .next t → t.Inv

/-- R23, R33, R43, R49, U10, U11: the bytes whose value the spec leaves open are never read. Two safe states that differ
in such bytes only take the same step: same registers, queues, events, deliveries and answers, and they still differ in
such bytes only. -/
def Obligations.UnwrittenBytesNeverMatter : Prop :=
  ∀ s s' t : State, s.Inv → s'.Inv → s.Agree s' → step s = .next t →
    ∃ t' : State, step s' = .next t' ∧ t.Agree t'
end

