-- ==== Sys2Proof/Laws/State.lean ====
section
/-! SUPPORT. One lemma per field per update of the state, of a channel and of the units, each true by `rfl`, so that no
later proof unfolds an update. -/

namespace Sys2Proof.Machine

/-! ## The whole state -/

@[simp] theorem State.setFe_cfg (s : State) (v : Fe) : (s.setFe v).cfg = s.cfg := rfl
@[simp] theorem State.setFe_fe (s : State) (v : Fe) : (s.setFe v).fe = v := rfl
@[simp] theorem State.setFe_xr (s : State) (v : Fe) : (s.setFe v).xr = s.xr := rfl
@[simp] theorem State.setFe_xt (s : State) (v : Fe) : (s.setFe v).xt = s.xt := rfl
@[simp] theorem State.setFe_crcu (s : State) (v : Fe) : (s.setFe v).crcu = s.crcu := rfl
@[simp] theorem State.setFe_ticks (s : State) (v : Fe) : (s.setFe v).ticks = s.ticks := rfl
@[simp] theorem State.setFe_agenda (s : State) (v : Fe) : (s.setFe v).agenda = s.agenda := rfl
@[simp] theorem State.setFe_response (s : State) (v : Fe) : (s.setFe v).response = s.response := rfl
@[simp] theorem State.setFe_wire (s : State) (v : Fe) : (s.setFe v).wire = s.wire := rfl

@[simp] theorem State.setXr_cfg (s : State) (v : Xr) : (s.setXr v).cfg = s.cfg := rfl
@[simp] theorem State.setXr_fe (s : State) (v : Xr) : (s.setXr v).fe = s.fe := rfl
@[simp] theorem State.setXr_xr (s : State) (v : Xr) : (s.setXr v).xr = v := rfl
@[simp] theorem State.setXr_xt (s : State) (v : Xr) : (s.setXr v).xt = s.xt := rfl
@[simp] theorem State.setXr_crcu (s : State) (v : Xr) : (s.setXr v).crcu = s.crcu := rfl
@[simp] theorem State.setXr_ticks (s : State) (v : Xr) : (s.setXr v).ticks = s.ticks := rfl
@[simp] theorem State.setXr_agenda (s : State) (v : Xr) : (s.setXr v).agenda = s.agenda := rfl
@[simp] theorem State.setXr_response (s : State) (v : Xr) : (s.setXr v).response = s.response := rfl
@[simp] theorem State.setXr_wire (s : State) (v : Xr) : (s.setXr v).wire = s.wire := rfl

@[simp] theorem State.setXt_cfg (s : State) (v : Xt) : (s.setXt v).cfg = s.cfg := rfl
@[simp] theorem State.setXt_fe (s : State) (v : Xt) : (s.setXt v).fe = s.fe := rfl
@[simp] theorem State.setXt_xr (s : State) (v : Xt) : (s.setXt v).xr = s.xr := rfl
@[simp] theorem State.setXt_xt (s : State) (v : Xt) : (s.setXt v).xt = v := rfl
@[simp] theorem State.setXt_crcu (s : State) (v : Xt) : (s.setXt v).crcu = s.crcu := rfl
@[simp] theorem State.setXt_ticks (s : State) (v : Xt) : (s.setXt v).ticks = s.ticks := rfl
@[simp] theorem State.setXt_agenda (s : State) (v : Xt) : (s.setXt v).agenda = s.agenda := rfl
@[simp] theorem State.setXt_response (s : State) (v : Xt) : (s.setXt v).response = s.response := rfl
@[simp] theorem State.setXt_wire (s : State) (v : Xt) : (s.setXt v).wire = s.wire := rfl

@[simp] theorem State.setCrcu_cfg (s : State) (v : Crcu) : (s.setCrcu v).cfg = s.cfg := rfl
@[simp] theorem State.setCrcu_fe (s : State) (v : Crcu) : (s.setCrcu v).fe = s.fe := rfl
@[simp] theorem State.setCrcu_xr (s : State) (v : Crcu) : (s.setCrcu v).xr = s.xr := rfl
@[simp] theorem State.setCrcu_xt (s : State) (v : Crcu) : (s.setCrcu v).xt = s.xt := rfl
@[simp] theorem State.setCrcu_crcu (s : State) (v : Crcu) : (s.setCrcu v).crcu = v := rfl
@[simp] theorem State.setCrcu_ticks (s : State) (v : Crcu) : (s.setCrcu v).ticks = s.ticks := rfl
@[simp] theorem State.setCrcu_agenda (s : State) (v : Crcu) : (s.setCrcu v).agenda = s.agenda := rfl
@[simp] theorem State.setCrcu_response (s : State) (v : Crcu) : (s.setCrcu v).response = s.response := rfl
@[simp] theorem State.setCrcu_wire (s : State) (v : Crcu) : (s.setCrcu v).wire = s.wire := rfl

@[simp] theorem State.setTicks_cfg (s : State) (v : PendingTicks) : (s.setTicks v).cfg = s.cfg := rfl
@[simp] theorem State.setTicks_fe (s : State) (v : PendingTicks) : (s.setTicks v).fe = s.fe := rfl
@[simp] theorem State.setTicks_xr (s : State) (v : PendingTicks) : (s.setTicks v).xr = s.xr := rfl
@[simp] theorem State.setTicks_xt (s : State) (v : PendingTicks) : (s.setTicks v).xt = s.xt := rfl
@[simp] theorem State.setTicks_crcu (s : State) (v : PendingTicks) : (s.setTicks v).crcu = s.crcu := rfl
@[simp] theorem State.setTicks_ticks (s : State) (v : PendingTicks) : (s.setTicks v).ticks = v := rfl
@[simp] theorem State.setTicks_agenda (s : State) (v : PendingTicks) : (s.setTicks v).agenda = s.agenda := rfl
@[simp] theorem State.setTicks_response (s : State) (v : PendingTicks) : (s.setTicks v).response = s.response := rfl
@[simp] theorem State.setTicks_wire (s : State) (v : PendingTicks) : (s.setTicks v).wire = s.wire := rfl

@[simp] theorem State.setAgenda_cfg (s : State) (v : List Turn) : (s.setAgenda v).cfg = s.cfg := rfl
@[simp] theorem State.setAgenda_fe (s : State) (v : List Turn) : (s.setAgenda v).fe = s.fe := rfl
@[simp] theorem State.setAgenda_xr (s : State) (v : List Turn) : (s.setAgenda v).xr = s.xr := rfl
@[simp] theorem State.setAgenda_xt (s : State) (v : List Turn) : (s.setAgenda v).xt = s.xt := rfl
@[simp] theorem State.setAgenda_crcu (s : State) (v : List Turn) : (s.setAgenda v).crcu = s.crcu := rfl
@[simp] theorem State.setAgenda_ticks (s : State) (v : List Turn) : (s.setAgenda v).ticks = s.ticks := rfl
@[simp] theorem State.setAgenda_agenda (s : State) (v : List Turn) : (s.setAgenda v).agenda = v := rfl
@[simp] theorem State.setAgenda_response (s : State) (v : List Turn) : (s.setAgenda v).response = s.response := rfl
@[simp] theorem State.setAgenda_wire (s : State) (v : List Turn) : (s.setAgenda v).wire = s.wire := rfl

@[simp] theorem State.setResponse_cfg (s : State) (v : Option Response) : (s.setResponse v).cfg = s.cfg := rfl
@[simp] theorem State.setResponse_fe (s : State) (v : Option Response) : (s.setResponse v).fe = s.fe := rfl
@[simp] theorem State.setResponse_xr (s : State) (v : Option Response) : (s.setResponse v).xr = s.xr := rfl
@[simp] theorem State.setResponse_xt (s : State) (v : Option Response) : (s.setResponse v).xt = s.xt := rfl
@[simp] theorem State.setResponse_crcu (s : State) (v : Option Response) : (s.setResponse v).crcu = s.crcu := rfl
@[simp] theorem State.setResponse_ticks (s : State) (v : Option Response) : (s.setResponse v).ticks = s.ticks := rfl
@[simp] theorem State.setResponse_agenda (s : State) (v : Option Response) : (s.setResponse v).agenda = s.agenda := rfl
@[simp] theorem State.setResponse_response (s : State) (v : Option Response) : (s.setResponse v).response = v := rfl
@[simp] theorem State.setResponse_wire (s : State) (v : Option Response) : (s.setResponse v).wire = s.wire := rfl

@[simp] theorem State.setWire_cfg (s : State) (v : Option (UnitId × Byte)) : (s.setWire v).cfg = s.cfg := rfl
@[simp] theorem State.setWire_fe (s : State) (v : Option (UnitId × Byte)) : (s.setWire v).fe = s.fe := rfl
@[simp] theorem State.setWire_xr (s : State) (v : Option (UnitId × Byte)) : (s.setWire v).xr = s.xr := rfl
@[simp] theorem State.setWire_xt (s : State) (v : Option (UnitId × Byte)) : (s.setWire v).xt = s.xt := rfl
@[simp] theorem State.setWire_crcu (s : State) (v : Option (UnitId × Byte)) : (s.setWire v).crcu = s.crcu := rfl
@[simp] theorem State.setWire_ticks (s : State) (v : Option (UnitId × Byte)) : (s.setWire v).ticks = s.ticks := rfl
@[simp] theorem State.setWire_agenda (s : State) (v : Option (UnitId × Byte)) : (s.setWire v).agenda = s.agenda := rfl
@[simp] theorem State.setWire_response (s : State) (v : Option (UnitId × Byte)) : (s.setWire v).response = s.response := rfl
@[simp] theorem State.setWire_wire (s : State) (v : Option (UnitId × Byte)) : (s.setWire v).wire = v := rfl

@[simp] theorem State.respond_cfg (s : State) (st : Status) (r : Result) : (s.respond st r).cfg = s.cfg := rfl
@[simp] theorem State.respond_fe (s : State) (st : Status) (r : Result) : (s.respond st r).fe = s.fe := rfl
@[simp] theorem State.respond_xr (s : State) (st : Status) (r : Result) : (s.respond st r).xr = s.xr := rfl
@[simp] theorem State.respond_xt (s : State) (st : Status) (r : Result) : (s.respond st r).xt = s.xt := rfl
@[simp] theorem State.respond_crcu (s : State) (st : Status) (r : Result) : (s.respond st r).crcu = s.crcu := rfl
@[simp] theorem State.respond_ticks (s : State) (st : Status) (r : Result) : (s.respond st r).ticks = s.ticks := rfl
@[simp] theorem State.respond_agenda (s : State) (st : Status) (r : Result) : (s.respond st r).agenda = s.agenda := rfl
@[simp] theorem State.respond_response (s : State) (st : Status) (r : Result) : (s.respond st r).response = some ⟨st, r⟩ := rfl
@[simp] theorem State.respond_wire (s : State) (st : Status) (r : Result) : (s.respond st r).wire = s.wire := rfl

/-! ## A channel -/

@[simp] theorem Channel.consume_rxBuf (c : Config) (ch : Channel) : (ch.consume c).rxBuf = ch.rxBuf := rfl
@[simp] theorem Channel.consume_readOffset (c : Config) (ch : Channel) : (ch.consume c).readOffset = (ch.readOffset + 1) % c.rxqCap := rfl
@[simp] theorem Channel.consume_writeOffset (c : Config) (ch : Channel) : (ch.consume c).writeOffset = ch.writeOffset := rfl
@[simp] theorem Channel.consume_rxOverflow (c : Config) (ch : Channel) : (ch.consume c).rxOverflow = ch.rxOverflow := rfl
@[simp] theorem Channel.consume_txq (c : Config) (ch : Channel) : (ch.consume c).txq = ch.txq := rfl
@[simp] theorem Channel.consume_evq (c : Config) (ch : Channel) : (ch.consume c).evq = ch.evq := rfl

@[simp] theorem Channel.clearOverflow_rxBuf (ch : Channel) : (ch.clearOverflow).rxBuf = ch.rxBuf := rfl
@[simp] theorem Channel.clearOverflow_readOffset (ch : Channel) : (ch.clearOverflow).readOffset = ch.readOffset := rfl
@[simp] theorem Channel.clearOverflow_writeOffset (ch : Channel) : (ch.clearOverflow).writeOffset = ch.writeOffset := rfl
@[simp] theorem Channel.clearOverflow_rxOverflow (ch : Channel) : (ch.clearOverflow).rxOverflow = false := rfl
@[simp] theorem Channel.clearOverflow_txq (ch : Channel) : (ch.clearOverflow).txq = ch.txq := rfl
@[simp] theorem Channel.clearOverflow_evq (ch : Channel) : (ch.clearOverflow).evq = ch.evq := rfl

@[simp] theorem Channel.txPush_rxBuf (ch : Channel) (p : List Byte) : (ch.txPush p).rxBuf = ch.rxBuf := rfl
@[simp] theorem Channel.txPush_readOffset (ch : Channel) (p : List Byte) : (ch.txPush p).readOffset = ch.readOffset := rfl
@[simp] theorem Channel.txPush_writeOffset (ch : Channel) (p : List Byte) : (ch.txPush p).writeOffset = ch.writeOffset := rfl
@[simp] theorem Channel.txPush_rxOverflow (ch : Channel) (p : List Byte) : (ch.txPush p).rxOverflow = ch.rxOverflow := rfl
@[simp] theorem Channel.txPush_txq (ch : Channel) (p : List Byte) : (ch.txPush p).txq = ch.txq ++ p := rfl
@[simp] theorem Channel.txPush_evq (ch : Channel) (p : List Byte) : (ch.txPush p).evq = ch.evq := rfl

@[simp] theorem Channel.evPush_rxBuf (ch : Channel) (e : Event) : (ch.evPush e).rxBuf = ch.rxBuf := rfl
@[simp] theorem Channel.evPush_readOffset (ch : Channel) (e : Event) : (ch.evPush e).readOffset = ch.readOffset := rfl
@[simp] theorem Channel.evPush_writeOffset (ch : Channel) (e : Event) : (ch.evPush e).writeOffset = ch.writeOffset := rfl
@[simp] theorem Channel.evPush_rxOverflow (ch : Channel) (e : Event) : (ch.evPush e).rxOverflow = ch.rxOverflow := rfl
@[simp] theorem Channel.evPush_txq (ch : Channel) (e : Event) : (ch.evPush e).txq = ch.txq := rfl
@[simp] theorem Channel.evPush_evq (ch : Channel) (e : Event) : (ch.evPush e).evq = ch.evq ++ [e] := rfl

/-! ## FE -/

@[simp] theorem Fe.txPush_rxState (f : Fe) (p : List Byte) : (f.txPush p).rxState = f.rxState := rfl
@[simp] theorem Fe.txPush_pktType (f : Fe) (p : List Byte) : (f.txPush p).pktType = f.pktType := rfl
@[simp] theorem Fe.txPush_pktLen (f : Fe) (p : List Byte) : (f.txPush p).pktLen = f.pktLen := rfl
@[simp] theorem Fe.txPush_pktCrc (f : Fe) (p : List Byte) : (f.txPush p).pktCrc = f.pktCrc := rfl
@[simp] theorem Fe.txPush_pktCount (f : Fe) (p : List Byte) : (f.txPush p).pktCount = f.pktCount := rfl
@[simp] theorem Fe.txPush_pktBuf (f : Fe) (p : List Byte) : (f.txPush p).pktBuf = f.pktBuf := rfl
@[simp] theorem Fe.txPush_isAckNeeded (f : Fe) (p : List Byte) : (f.txPush p).isAckNeeded = f.isAckNeeded := rfl
@[simp] theorem Fe.txPush_isAckAbortNeeded (f : Fe) (p : List Byte) : (f.txPush p).isAckAbortNeeded = f.isAckAbortNeeded := rfl
@[simp] theorem Fe.txPush_isBackToBackWrite (f : Fe) (p : List Byte) : (f.txPush p).isBackToBackWrite = f.isBackToBackWrite := rfl
@[simp] theorem Fe.txPush_mps (f : Fe) (p : List Byte) : (f.txPush p).mps = f.mps := rfl
@[simp] theorem Fe.txPush_dlvValid (f : Fe) (p : List Byte) : (f.txPush p).dlvValid = f.dlvValid := rfl
@[simp] theorem Fe.txPush_dlvType (f : Fe) (p : List Byte) : (f.txPush p).dlvType = f.dlvType := rfl
@[simp] theorem Fe.txPush_dlvLen (f : Fe) (p : List Byte) : (f.txPush p).dlvLen = f.dlvLen := rfl
@[simp] theorem Fe.txPush_dlvPayload (f : Fe) (p : List Byte) : (f.txPush p).dlvPayload = f.dlvPayload := rfl
@[simp] theorem Fe.txPush_txCopy (f : Fe) (p : List Byte) : (f.txPush p).txCopy = f.txCopy := rfl
@[simp] theorem Fe.txPush_txCopyType (f : Fe) (p : List Byte) : (f.txPush p).txCopyType = f.txCopyType := rfl
@[simp] theorem Fe.txPush_txRetry (f : Fe) (p : List Byte) : (f.txPush p).txRetry = f.txRetry := rfl
@[simp] theorem Fe.txPush_timer (f : Fe) (p : List Byte) : (f.txPush p).timer = f.timer := rfl
@[simp] theorem Fe.txPush_chan (f : Fe) (p : List Byte) : (f.txPush p).chan = f.chan.txPush p := rfl

@[simp] theorem Fe.post_rxState (f : Fe) (e : Event) : (f.post e).rxState = f.rxState := rfl
@[simp] theorem Fe.post_pktType (f : Fe) (e : Event) : (f.post e).pktType = f.pktType := rfl
@[simp] theorem Fe.post_pktLen (f : Fe) (e : Event) : (f.post e).pktLen = f.pktLen := rfl
@[simp] theorem Fe.post_pktCrc (f : Fe) (e : Event) : (f.post e).pktCrc = f.pktCrc := rfl
@[simp] theorem Fe.post_pktCount (f : Fe) (e : Event) : (f.post e).pktCount = f.pktCount := rfl
@[simp] theorem Fe.post_pktBuf (f : Fe) (e : Event) : (f.post e).pktBuf = f.pktBuf := rfl
@[simp] theorem Fe.post_isAckNeeded (f : Fe) (e : Event) : (f.post e).isAckNeeded = f.isAckNeeded := rfl
@[simp] theorem Fe.post_isAckAbortNeeded (f : Fe) (e : Event) : (f.post e).isAckAbortNeeded = f.isAckAbortNeeded := rfl
@[simp] theorem Fe.post_isBackToBackWrite (f : Fe) (e : Event) : (f.post e).isBackToBackWrite = f.isBackToBackWrite := rfl
@[simp] theorem Fe.post_mps (f : Fe) (e : Event) : (f.post e).mps = f.mps := rfl
@[simp] theorem Fe.post_dlvValid (f : Fe) (e : Event) : (f.post e).dlvValid = f.dlvValid := rfl
@[simp] theorem Fe.post_dlvType (f : Fe) (e : Event) : (f.post e).dlvType = f.dlvType := rfl
@[simp] theorem Fe.post_dlvLen (f : Fe) (e : Event) : (f.post e).dlvLen = f.dlvLen := rfl
@[simp] theorem Fe.post_dlvPayload (f : Fe) (e : Event) : (f.post e).dlvPayload = f.dlvPayload := rfl
@[simp] theorem Fe.post_txCopy (f : Fe) (e : Event) : (f.post e).txCopy = f.txCopy := rfl
@[simp] theorem Fe.post_txCopyType (f : Fe) (e : Event) : (f.post e).txCopyType = f.txCopyType := rfl
@[simp] theorem Fe.post_txRetry (f : Fe) (e : Event) : (f.post e).txRetry = f.txRetry := rfl
@[simp] theorem Fe.post_timer (f : Fe) (e : Event) : (f.post e).timer = f.timer := rfl
@[simp] theorem Fe.post_chan (f : Fe) (e : Event) : (f.post e).chan = f.chan.evPush e := rfl

@[simp] theorem Fe.consume_rxState (c : Config) (f : Fe) : (f.consume c).rxState = f.rxState := rfl
@[simp] theorem Fe.consume_pktType (c : Config) (f : Fe) : (f.consume c).pktType = f.pktType := rfl
@[simp] theorem Fe.consume_pktLen (c : Config) (f : Fe) : (f.consume c).pktLen = f.pktLen := rfl
@[simp] theorem Fe.consume_pktCrc (c : Config) (f : Fe) : (f.consume c).pktCrc = f.pktCrc := rfl
@[simp] theorem Fe.consume_pktCount (c : Config) (f : Fe) : (f.consume c).pktCount = f.pktCount := rfl
@[simp] theorem Fe.consume_pktBuf (c : Config) (f : Fe) : (f.consume c).pktBuf = f.pktBuf := rfl
@[simp] theorem Fe.consume_isAckNeeded (c : Config) (f : Fe) : (f.consume c).isAckNeeded = f.isAckNeeded := rfl
@[simp] theorem Fe.consume_isAckAbortNeeded (c : Config) (f : Fe) : (f.consume c).isAckAbortNeeded = f.isAckAbortNeeded := rfl
@[simp] theorem Fe.consume_isBackToBackWrite (c : Config) (f : Fe) : (f.consume c).isBackToBackWrite = f.isBackToBackWrite := rfl
@[simp] theorem Fe.consume_mps (c : Config) (f : Fe) : (f.consume c).mps = f.mps := rfl
@[simp] theorem Fe.consume_dlvValid (c : Config) (f : Fe) : (f.consume c).dlvValid = f.dlvValid := rfl
@[simp] theorem Fe.consume_dlvType (c : Config) (f : Fe) : (f.consume c).dlvType = f.dlvType := rfl
@[simp] theorem Fe.consume_dlvLen (c : Config) (f : Fe) : (f.consume c).dlvLen = f.dlvLen := rfl
@[simp] theorem Fe.consume_dlvPayload (c : Config) (f : Fe) : (f.consume c).dlvPayload = f.dlvPayload := rfl
@[simp] theorem Fe.consume_txCopy (c : Config) (f : Fe) : (f.consume c).txCopy = f.txCopy := rfl
@[simp] theorem Fe.consume_txCopyType (c : Config) (f : Fe) : (f.consume c).txCopyType = f.txCopyType := rfl
@[simp] theorem Fe.consume_txRetry (c : Config) (f : Fe) : (f.consume c).txRetry = f.txRetry := rfl
@[simp] theorem Fe.consume_timer (c : Config) (f : Fe) : (f.consume c).timer = f.timer := rfl
@[simp] theorem Fe.consume_chan (c : Config) (f : Fe) : (f.consume c).chan = f.chan.consume c := rfl

/-! ## XR -/

@[simp] theorem Xr.txPush_state (x : Xr) (p : List Byte) : (x.txPush p).state = x.state := rfl
@[simp] theorem Xr.txPush_mode (x : Xr) (p : List Byte) : (x.txPush p).mode = x.mode := rfl
@[simp] theorem Xr.txPush_first (x : Xr) (p : List Byte) : (x.txPush p).first = x.first := rfl
@[simp] theorem Xr.txPush_expectedSeq (x : Xr) (p : List Byte) : (x.txPush p).expectedSeq = x.expectedSeq := rfl
@[simp] theorem Xr.txPush_rxSeq (x : Xr) (p : List Byte) : (x.txPush p).rxSeq = x.rxSeq := rfl
@[simp] theorem Xr.txPush_size1k (x : Xr) (p : List Byte) : (x.txPush p).size1k = x.size1k := rfl
@[simp] theorem Xr.txPush_count (x : Xr) (p : List Byte) : (x.txPush p).count = x.count := rfl
@[simp] theorem Xr.txPush_tcount (x : Xr) (p : List Byte) : (x.txPush p).tcount = x.tcount := rfl
@[simp] theorem Xr.txPush_trailer0 (x : Xr) (p : List Byte) : (x.txPush p).trailer0 = x.trailer0 := rfl
@[simp] theorem Xr.txPush_trailer1 (x : Xr) (p : List Byte) : (x.txPush p).trailer1 = x.trailer1 := rfl
@[simp] theorem Xr.txPush_buf (x : Xr) (p : List Byte) : (x.txPush p).buf = x.buf := rfl
@[simp] theorem Xr.txPush_retry (x : Xr) (p : List Byte) : (x.txPush p).retry = x.retry := rfl
@[simp] theorem Xr.txPush_timer (x : Xr) (p : List Byte) : (x.txPush p).timer = x.timer := rfl
@[simp] theorem Xr.txPush_chan (x : Xr) (p : List Byte) : (x.txPush p).chan = x.chan.txPush p := rfl

@[simp] theorem Xr.post_state (x : Xr) (e : Event) : (x.post e).state = x.state := rfl
@[simp] theorem Xr.post_mode (x : Xr) (e : Event) : (x.post e).mode = x.mode := rfl
@[simp] theorem Xr.post_first (x : Xr) (e : Event) : (x.post e).first = x.first := rfl
@[simp] theorem Xr.post_expectedSeq (x : Xr) (e : Event) : (x.post e).expectedSeq = x.expectedSeq := rfl
@[simp] theorem Xr.post_rxSeq (x : Xr) (e : Event) : (x.post e).rxSeq = x.rxSeq := rfl
@[simp] theorem Xr.post_size1k (x : Xr) (e : Event) : (x.post e).size1k = x.size1k := rfl
@[simp] theorem Xr.post_count (x : Xr) (e : Event) : (x.post e).count = x.count := rfl
@[simp] theorem Xr.post_tcount (x : Xr) (e : Event) : (x.post e).tcount = x.tcount := rfl
@[simp] theorem Xr.post_trailer0 (x : Xr) (e : Event) : (x.post e).trailer0 = x.trailer0 := rfl
@[simp] theorem Xr.post_trailer1 (x : Xr) (e : Event) : (x.post e).trailer1 = x.trailer1 := rfl
@[simp] theorem Xr.post_buf (x : Xr) (e : Event) : (x.post e).buf = x.buf := rfl
@[simp] theorem Xr.post_retry (x : Xr) (e : Event) : (x.post e).retry = x.retry := rfl
@[simp] theorem Xr.post_timer (x : Xr) (e : Event) : (x.post e).timer = x.timer := rfl
@[simp] theorem Xr.post_chan (x : Xr) (e : Event) : (x.post e).chan = x.chan.evPush e := rfl

@[simp] theorem Xr.consume_state (c : Config) (x : Xr) : (x.consume c).state = x.state := rfl
@[simp] theorem Xr.consume_mode (c : Config) (x : Xr) : (x.consume c).mode = x.mode := rfl
@[simp] theorem Xr.consume_first (c : Config) (x : Xr) : (x.consume c).first = x.first := rfl
@[simp] theorem Xr.consume_expectedSeq (c : Config) (x : Xr) : (x.consume c).expectedSeq = x.expectedSeq := rfl
@[simp] theorem Xr.consume_rxSeq (c : Config) (x : Xr) : (x.consume c).rxSeq = x.rxSeq := rfl
@[simp] theorem Xr.consume_size1k (c : Config) (x : Xr) : (x.consume c).size1k = x.size1k := rfl
@[simp] theorem Xr.consume_count (c : Config) (x : Xr) : (x.consume c).count = x.count := rfl
@[simp] theorem Xr.consume_tcount (c : Config) (x : Xr) : (x.consume c).tcount = x.tcount := rfl
@[simp] theorem Xr.consume_trailer0 (c : Config) (x : Xr) : (x.consume c).trailer0 = x.trailer0 := rfl
@[simp] theorem Xr.consume_trailer1 (c : Config) (x : Xr) : (x.consume c).trailer1 = x.trailer1 := rfl
@[simp] theorem Xr.consume_buf (c : Config) (x : Xr) : (x.consume c).buf = x.buf := rfl
@[simp] theorem Xr.consume_retry (c : Config) (x : Xr) : (x.consume c).retry = x.retry := rfl
@[simp] theorem Xr.consume_timer (c : Config) (x : Xr) : (x.consume c).timer = x.timer := rfl
@[simp] theorem Xr.consume_chan (c : Config) (x : Xr) : (x.consume c).chan = x.chan.consume c := rfl

/-! ## XT -/

@[simp] theorem Xt.txPush_state (x : Xt) (p : List Byte) : (x.txPush p).state = x.state := rfl
@[simp] theorem Xt.txPush_mode (x : Xt) (p : List Byte) : (x.txPush p).mode = x.mode := rfl
@[simp] theorem Xt.txPush_seq (x : Xt) (p : List Byte) : (x.txPush p).seq = x.seq := rfl
@[simp] theorem Xt.txPush_buf (x : Xt) (p : List Byte) : (x.txPush p).buf = x.buf := rfl
@[simp] theorem Xt.txPush_dataLen (x : Xt) (p : List Byte) : (x.txPush p).dataLen = x.dataLen := rfl
@[simp] theorem Xt.txPush_short (x : Xt) (p : List Byte) : (x.txPush p).short = x.short := rfl
@[simp] theorem Xt.txPush_sent (x : Xt) (p : List Byte) : (x.txPush p).sent = x.sent := rfl
@[simp] theorem Xt.txPush_tidx (x : Xt) (p : List Byte) : (x.txPush p).tidx = x.tidx := rfl
@[simp] theorem Xt.txPush_retry (x : Xt) (p : List Byte) : (x.txPush p).retry = x.retry := rfl
@[simp] theorem Xt.txPush_total (x : Xt) (p : List Byte) : (x.txPush p).total = x.total := rfl
@[simp] theorem Xt.txPush_timer (x : Xt) (p : List Byte) : (x.txPush p).timer = x.timer := rfl
@[simp] theorem Xt.txPush_chan (x : Xt) (p : List Byte) : (x.txPush p).chan = x.chan.txPush p := rfl

@[simp] theorem Xt.post_state (x : Xt) (e : Event) : (x.post e).state = x.state := rfl
@[simp] theorem Xt.post_mode (x : Xt) (e : Event) : (x.post e).mode = x.mode := rfl
@[simp] theorem Xt.post_seq (x : Xt) (e : Event) : (x.post e).seq = x.seq := rfl
@[simp] theorem Xt.post_buf (x : Xt) (e : Event) : (x.post e).buf = x.buf := rfl
@[simp] theorem Xt.post_dataLen (x : Xt) (e : Event) : (x.post e).dataLen = x.dataLen := rfl
@[simp] theorem Xt.post_short (x : Xt) (e : Event) : (x.post e).short = x.short := rfl
@[simp] theorem Xt.post_sent (x : Xt) (e : Event) : (x.post e).sent = x.sent := rfl
@[simp] theorem Xt.post_tidx (x : Xt) (e : Event) : (x.post e).tidx = x.tidx := rfl
@[simp] theorem Xt.post_retry (x : Xt) (e : Event) : (x.post e).retry = x.retry := rfl
@[simp] theorem Xt.post_total (x : Xt) (e : Event) : (x.post e).total = x.total := rfl
@[simp] theorem Xt.post_timer (x : Xt) (e : Event) : (x.post e).timer = x.timer := rfl
@[simp] theorem Xt.post_chan (x : Xt) (e : Event) : (x.post e).chan = x.chan.evPush e := rfl

@[simp] theorem Xt.consume_state (c : Config) (x : Xt) : (x.consume c).state = x.state := rfl
@[simp] theorem Xt.consume_mode (c : Config) (x : Xt) : (x.consume c).mode = x.mode := rfl
@[simp] theorem Xt.consume_seq (c : Config) (x : Xt) : (x.consume c).seq = x.seq := rfl
@[simp] theorem Xt.consume_buf (c : Config) (x : Xt) : (x.consume c).buf = x.buf := rfl
@[simp] theorem Xt.consume_dataLen (c : Config) (x : Xt) : (x.consume c).dataLen = x.dataLen := rfl
@[simp] theorem Xt.consume_short (c : Config) (x : Xt) : (x.consume c).short = x.short := rfl
@[simp] theorem Xt.consume_sent (c : Config) (x : Xt) : (x.consume c).sent = x.sent := rfl
@[simp] theorem Xt.consume_tidx (c : Config) (x : Xt) : (x.consume c).tidx = x.tidx := rfl
@[simp] theorem Xt.consume_retry (c : Config) (x : Xt) : (x.consume c).retry = x.retry := rfl
@[simp] theorem Xt.consume_total (c : Config) (x : Xt) : (x.consume c).total = x.total := rfl
@[simp] theorem Xt.consume_timer (c : Config) (x : Xt) : (x.consume c).timer = x.timer := rfl
@[simp] theorem Xt.consume_chan (c : Config) (x : Xt) : (x.consume c).chan = x.chan.consume c := rfl

@[simp] theorem Xr.settle_state (c : Config) (x : Xr) : (x.settle c).state = x.state := rfl
@[simp] theorem Xr.settle_mode (c : Config) (x : Xr) : (x.settle c).mode = x.mode := rfl
@[simp] theorem Xr.settle_first (c : Config) (x : Xr) : (x.settle c).first = x.first := rfl
@[simp] theorem Xr.settle_expectedSeq (c : Config) (x : Xr) : (x.settle c).expectedSeq = x.expectedSeq := rfl
@[simp] theorem Xr.settle_rxSeq (c : Config) (x : Xr) : (x.settle c).rxSeq = x.rxSeq := rfl
@[simp] theorem Xr.settle_size1k (c : Config) (x : Xr) : (x.settle c).size1k = x.size1k := rfl
@[simp] theorem Xr.settle_count (c : Config) (x : Xr) : (x.settle c).count = x.count := rfl
@[simp] theorem Xr.settle_tcount (c : Config) (x : Xr) : (x.settle c).tcount = x.tcount := rfl
@[simp] theorem Xr.settle_trailer0 (c : Config) (x : Xr) : (x.settle c).trailer0 = x.trailer0 := rfl
@[simp] theorem Xr.settle_trailer1 (c : Config) (x : Xr) : (x.settle c).trailer1 = x.trailer1 := rfl
@[simp] theorem Xr.settle_buf (c : Config) (x : Xr) : (x.settle c).buf = x.buf := rfl
@[simp] theorem Xr.settle_retry (c : Config) (x : Xr) : (x.settle c).retry = x.retry := rfl
@[simp] theorem Xr.settle_timer (c : Config) (x : Xr) : (x.settle c).timer = (if x.state.active then c.xrTimeout else 0) := rfl
@[simp] theorem Xr.settle_chan (c : Config) (x : Xr) : (x.settle c).chan = x.chan := rfl

end Sys2Proof.Machine
end

