-- ==== Sys2Proof/Laws/Channel.lean ====
section
/-! SUPPORT. The channel operations of spec/20_memory.md: what each can answer, and that each keeps the canonical form
`Channel.Wf` of a channel (R49, R72 to R78). -/

namespace Sys2Proof.Machine

/-! ## What each operation answers -/

theorem Channel.rxHead_some {ch : Channel} {b : Byte} (h : ch.rxHead = some b) :
    ch.readOffset ≠ ch.writeOffset ∧ ch.rxBuf[ch.readOffset]? = some b := by
  unfold Channel.rxHead at h
  split at h
  · cases h
  · exact ⟨‹_›, h⟩

theorem Channel.rxHead_of_empty {ch : Channel} (h : ch.readOffset = ch.writeOffset) : ch.rxHead = none := if_pos h

theorem Channel.rxPush_of_full {c : Config} {ch : Channel} (b : Byte)
    (h : (ch.writeOffset + 1) % c.rxqCap = ch.readOffset) : ch.rxPush c b = { ch with rxOverflow := true } := if_pos h

theorem Channel.rxPush_of_room {c : Config} {ch : Channel} (b : Byte)
    (h : (ch.writeOffset + 1) % c.rxqCap ≠ ch.readOffset) :
    ch.rxPush c b =
      { ch with rxBuf := ch.rxBuf.set ch.writeOffset b, writeOffset := (ch.writeOffset + 1) % c.rxqCap } := if_neg h

@[simp] theorem Channel.rxPush_readOffset (c : Config) (ch : Channel) (b : Byte) :
    (ch.rxPush c b).readOffset = ch.readOffset := by unfold Channel.rxPush; split <;> rfl
@[simp] theorem Channel.rxPush_txq (c : Config) (ch : Channel) (b : Byte) : (ch.rxPush c b).txq = ch.txq := by
  unfold Channel.rxPush; split <;> rfl
@[simp] theorem Channel.rxPush_evq (c : Config) (ch : Channel) (b : Byte) : (ch.rxPush c b).evq = ch.evq := by
  unfold Channel.rxPush; split <;> rfl

theorem Channel.txPop_some {ch ch' : Channel} {b : Byte} (h : ch.txPop = some (b, ch')) :
    ch.txq = b :: ch'.txq ∧ ch' = { ch with txq := ch'.txq } := by
  unfold Channel.txPop at h
  split at h
  · cases h
  · cases h; exact ⟨‹_›, rfl⟩

theorem Channel.txPop_none {ch : Channel} (h : ch.txPop = none) : ch.txq = [] := by
  unfold Channel.txPop at h
  split at h
  · assumption
  · cases h

theorem Channel.evPop_some {ch ch' : Channel} {e : Event} (h : ch.evPop = some (e, ch')) :
    ch.evq = e :: ch'.evq ∧ ch' = { ch with evq := ch'.evq } := by
  unfold Channel.evPop at h
  split at h
  · cases h
  · cases h; exact ⟨‹_›, rfl⟩

theorem Channel.evPop_none {ch : Channel} (h : ch.evPop = none) : ch.evq = [] := by
  unfold Channel.evPop at h
  split at h
  · assumption
  · cases h

theorem Channel.le_txRoom_iff (c : Config) (ch : Channel) {n : Nat} (h : 0 < n) :
    n ≤ ch.txRoom c ↔ ch.txq.length + n ≤ c.txqCap := by unfold Channel.txRoom; omega

theorem Channel.one_le_evRoom_iff (c : Config) (ch : Channel) : 1 ≤ ch.evRoom c ↔ ch.evq.length < c.evqCap := by
  unfold Channel.evRoom; omega

/-! ## The canonical form is kept -/

variable {c : Config} {u : UnitId} {ch : Channel}

theorem Channel.wf_reset (h : 2 ≤ c.rxqCap) : (Channel.reset c).Wf c u where
  ring := by simp [Channel.reset]
  read := by simp only [Channel.reset]; omega
  write := by simp only [Channel.reset]; omega
  txFits := by simp [Channel.reset]
  evFits := by simp [Channel.reset]
  records := by simp [Channel.reset]

theorem Channel.Wf.consume (h : ch.Wf c u) : (ch.consume c).Wf c u :=
  { h with read := Nat.mod_lt _ (Nat.lt_of_le_of_lt (Nat.zero_le _) h.read) }

theorem Channel.Wf.rxPush (h : ch.Wf c u) (b : Byte) : (ch.rxPush c b).Wf c u := by
  unfold Channel.rxPush
  split
  · exact { h with }
  · exact { h with
      ring := by simpa using h.ring
      write := Nat.mod_lt _ (Nat.lt_of_le_of_lt (Nat.zero_le _) h.write) }

theorem Channel.Wf.clearOverflow (h : ch.Wf c u) : ch.clearOverflow.Wf c u := { h with }

theorem Channel.Wf.txPush (h : ch.Wf c u) {p : List Byte} (room : p.length ≤ ch.txRoom c) : (ch.txPush p).Wf c u :=
  { h with
    txFits := by
      have := h.txFits
      unfold Channel.txRoom at room
      simp only [Channel.txPush, List.length_append]
      omega }

theorem Channel.Wf.evPush (h : ch.Wf c u) {e : Event} (room : 1 ≤ ch.evRoom c) (own : e.unit = u) (ok : e.FieldsOk) :
    (ch.evPush e).Wf c u :=
  { h with
    evFits := by
      have := h.evFits
      unfold Channel.evRoom at room
      simp only [Channel.evPush, List.length_append, List.length_singleton]
      omega
    records := by
      intro e' he
      rcases List.mem_append.mp he with he | he
      · exact h.records e' he
      · rw [List.mem_singleton.mp he]; exact ⟨own, ok⟩ }

theorem Channel.Wf.txPop (h : ch.Wf c u) {ch' : Channel} {b : Byte} (hp : ch.txPop = some (b, ch')) : ch'.Wf c u := by
  obtain ⟨hq, he⟩ := Channel.txPop_some hp
  rw [he]
  exact { h with
    txFits := by
      have := h.txFits
      rw [hq, List.length_cons] at this
      show ch'.txq.length ≤ c.txqCap
      omega }

theorem Channel.Wf.evPop (h : ch.Wf c u) {ch' : Channel} {e : Event} (hp : ch.evPop = some (e, ch')) : ch'.Wf c u := by
  obtain ⟨hq, he⟩ := Channel.evPop_some hp
  rw [he]
  exact { h with
    evFits := by
      have := h.evFits
      rw [hq, List.length_cons] at this
      show ch'.evq.length ≤ c.evqCap
      omega
    records := fun e' he' => h.records e' (by rw [hq]; exact List.mem_cons_of_mem _ he') }

/-- A ring within its capacity that is not empty has a head byte. -/
theorem Channel.Wf.rxHead_isSome (h : ch.Wf c u) (hne : ch.readOffset ≠ ch.writeOffset) :
    ∃ b, ch.rxHead = some b := by
  have hr : ch.readOffset < ch.rxBuf.length := by rw [h.ring]; exact h.read
  exact ⟨_, by rw [Channel.rxHead, if_neg hne, List.getElem?_eq_getElem hr]⟩

end Sys2Proof.Machine
end

