-- ==== Sys2Proof/Laws/Ops.lean ====
section
/-! SUPPORT. What the shared operations of `Machine/Ops.lean` can do, each said once: a byte step is taken wholly or not
at all (spec/20_memory.md R73, R78), a token's step needs its state and its byte (R130), and failure entry (R348) and
restart (R349) write what they name. -/

namespace Sys2Proof.Machine

/-! ## Byte steps -/

theorem State.feByte_taken {s : State} {rule : Config → Fe → Byte → Option Fe} {b : Byte} {f : Fe}
    (hb : s.fe.chan.rxHead = some b) (hf : rule s.cfg s.fe b = some f) :
    s.feByte rule = s.setFe (f.consume s.cfg) := by
  simp only [State.feByte, hb, hf]

theorem State.feByte_held {s : State} {rule : Config → Fe → Byte → Option Fe} {b : Byte}
    (hb : s.fe.chan.rxHead = some b) (hf : rule s.cfg s.fe b = none) : s.feByte rule = s := by
  simp only [State.feByte, hb, hf]

theorem State.feByte_cases (s : State) (rule : Config → Fe → Byte → Option Fe) :
    s.feByte rule = s ∨ ∃ b f, s.fe.chan.rxHead = some b ∧ rule s.cfg s.fe b = some f ∧
      s.feByte rule = s.setFe (f.consume s.cfg) := by
  unfold State.feByte
  split
  · exact .inl rfl
  · split
    · exact .inl rfl
    · exact .inr ⟨_, _, ‹_›, ‹_›, rfl⟩

theorem State.xrByte_taken {s : State} {rule : Config → Xr → Byte → Option Xr} {b : Byte} {x : Xr}
    (hb : s.xr.chan.rxHead = some b) (hx : rule s.cfg s.xr b = some x) :
    s.xrByte rule = s.setXr ((x.settle s.cfg).consume s.cfg) := by
  simp only [State.xrByte, hb, hx]

theorem State.xrByte_held {s : State} {rule : Config → Xr → Byte → Option Xr} {b : Byte}
    (hb : s.xr.chan.rxHead = some b) (hx : rule s.cfg s.xr b = none) : s.xrByte rule = s := by
  simp only [State.xrByte, hb, hx]

theorem State.xrByte_cases (s : State) (rule : Config → Xr → Byte → Option Xr) :
    s.xrByte rule = s ∨ ∃ b x, s.xr.chan.rxHead = some b ∧ rule s.cfg s.xr b = some x ∧
      s.xrByte rule = s.setXr ((x.settle s.cfg).consume s.cfg) := by
  unfold State.xrByte
  split
  · exact .inl rfl
  · split
    · exact .inl rfl
    · exact .inr ⟨_, _, ‹_›, ‹_›, rfl⟩

theorem State.xtByte_taken {s : State} {rule : Config → Xt → Byte → Option Xt} {b : Byte} {x : Xt}
    (hb : s.xt.chan.rxHead = some b) (hx : rule s.cfg s.xt b = some x) :
    s.xtByte rule = s.setXt (x.consume s.cfg) := by
  simp only [State.xtByte, hb, hx]

theorem State.xtByte_held {s : State} {rule : Config → Xt → Byte → Option Xt} {b : Byte}
    (hb : s.xt.chan.rxHead = some b) (hx : rule s.cfg s.xt b = none) : s.xtByte rule = s := by
  simp only [State.xtByte, hb, hx]

theorem State.xtByte_cases (s : State) (rule : Config → Xt → Byte → Option Xt) :
    s.xtByte rule = s ∨ ∃ b x, s.xt.chan.rxHead = some b ∧ rule s.cfg s.xt b = some x ∧
      s.xtByte rule = s.setXt (x.consume s.cfg) := by
  unfold State.xtByte
  split
  · exact .inl rfl
  · split
    · exact .inl rfl
    · exact .inr ⟨_, _, ‹_›, ‹_›, rfl⟩

/-! ## Tokens -/

theorem State.feToken_enabled {s : State} {t : Byte} (rule : Config → Fe → Option Fe)
    (hs : s.fe.rxState = .waitType) (hb : s.fe.chan.rxHead = some t) :
    s.feToken t rule = s.feByte (fun c f _ => rule c f) := if_pos ⟨hs, hb⟩

theorem State.xrToken_enabled {s : State} {t : Byte} (rule : Config → Xr → Option Xr)
    (hs : s.xr.state = .waitHeader) (hb : s.xr.chan.rxHead = some t) :
    s.xrToken t rule = s.xrByte (fun c x _ => rule c x) := if_pos ⟨hs, hb⟩

theorem State.xtToken_enabled {s : State} {t : Byte} {here : XtState → Bool} (rule : Config → Xt → Option Xt)
    (hs : here s.xt.state = true) (hb : s.xt.chan.rxHead = some t) :
    s.xtToken here t rule = s.xtByte (fun c x _ => rule c x) := if_pos ⟨hs, hb⟩

theorem State.feToken_cases (s : State) (t : Byte) (rule : Config → Fe → Option Fe) :
    s.feToken t rule = s ∨ ∃ f, s.fe.rxState = .waitType ∧ s.fe.chan.rxHead = some t ∧ rule s.cfg s.fe = some f ∧
      s.feToken t rule = s.setFe (f.consume s.cfg) := by
  unfold State.feToken
  split
  · rename_i h
    rcases s.feByte_cases (fun c f _ => rule c f) with h' | ⟨b, f, _, hf, h'⟩
    · exact .inl h'
    · exact .inr ⟨f, h.1, h.2, hf, h'⟩
  · exact .inl rfl

theorem State.xrToken_cases (s : State) (t : Byte) (rule : Config → Xr → Option Xr) :
    s.xrToken t rule = s ∨ ∃ x, s.xr.state = .waitHeader ∧ s.xr.chan.rxHead = some t ∧ rule s.cfg s.xr = some x ∧
      s.xrToken t rule = s.setXr ((x.settle s.cfg).consume s.cfg) := by
  unfold State.xrToken
  split
  · rename_i h
    rcases s.xrByte_cases (fun c x _ => rule c x) with h' | ⟨b, x, _, hx, h'⟩
    · exact .inl h'
    · exact .inr ⟨x, h.1, h.2, hx, h'⟩
  · exact .inl rfl

theorem State.xtToken_cases (s : State) (here : XtState → Bool) (t : Byte) (rule : Config → Xt → Option Xt) :
    s.xtToken here t rule = s ∨ ∃ x, here s.xt.state = true ∧ s.xt.chan.rxHead = some t ∧ rule s.cfg s.xt = some x ∧
      s.xtToken here t rule = s.setXt (x.consume s.cfg) := by
  unfold State.xtToken
  split
  · rename_i h
    rcases s.xtByte_cases (fun c x _ => rule c x) with h' | ⟨b, x, _, hx, h'⟩
    · exact .inl h'
    · exact .inr ⟨x, h.1, h.2, hx, h'⟩
  · exact .inl rfl

/-! ## Frames: a step of one unit writes that unit only (R354, D1) -/

theorem State.feByte_frame (s : State) (rule : Config → Fe → Byte → Option Fe) :
    s.feByte rule = s.setFe (s.feByte rule).fe := by
  rcases s.feByte_cases rule with h | ⟨_, _, _, _, h⟩ <;> rw [h] <;> rfl

theorem State.xrByte_frame (s : State) (rule : Config → Xr → Byte → Option Xr) :
    s.xrByte rule = s.setXr (s.xrByte rule).xr := by
  rcases s.xrByte_cases rule with h | ⟨_, _, _, _, h⟩ <;> rw [h] <;> rfl

theorem State.xtByte_frame (s : State) (rule : Config → Xt → Byte → Option Xt) :
    s.xtByte rule = s.setXt (s.xtByte rule).xt := by
  rcases s.xtByte_cases rule with h | ⟨_, _, _, _, h⟩ <;> rw [h] <;> rfl

theorem State.feToken_frame (s : State) (t : Byte) (rule : Config → Fe → Option Fe) :
    s.feToken t rule = s.setFe (s.feToken t rule).fe := by
  rcases s.feToken_cases t rule with h | ⟨_, _, _, _, h⟩ <;> rw [h] <;> rfl

theorem State.xrToken_frame (s : State) (t : Byte) (rule : Config → Xr → Option Xr) :
    s.xrToken t rule = s.setXr (s.xrToken t rule).xr := by
  rcases s.xrToken_cases t rule with h | ⟨_, _, _, _, h⟩ <;> rw [h] <;> rfl

theorem State.xtToken_frame (s : State) (here : XtState → Bool) (t : Byte) (rule : Config → Xt → Option Xt) :
    s.xtToken here t rule = s.setXt (s.xtToken here t rule).xt := by
  rcases s.xtToken_cases here t rule with h | ⟨_, _, _, _, h⟩ <;> rw [h] <;> rfl

/-- The timer settle in an active state reloads the timer (R224). -/
theorem Xr.settle_active {c : Config} {x : Xr} (h : x.state.active = true) :
    x.settle c = { x with timer := c.xrTimeout } := by
  unfold Xr.settle
  rw [if_pos h]

/-- The timer settle in IDLE or a terminal state disarms the timer (R224). -/
theorem Xr.settle_inactive {c : Config} {x : Xr} (h : x.state.active = false) :
    x.settle c = { x with timer := 0 } := by
  unfold Xr.settle
  rw [h]
  rfl

/-! ## FE rules -/

theorem Fe.nak_cases {c : Config} {f g : Fe} (h : f.nak c = some g) :
    2 ≤ f.chan.txRoom c ∧ g = { f.txPush (syncPacket 0xA2) with rxState := .waitStart } := by
  unfold Fe.nak at h
  split at h
  · exact ⟨‹_›, (Option.some.inj h).symm⟩
  · cases h

theorem Fe.endExchange_cases {c : Config} {f g : Fe} {e : Event} (h : f.endExchange c e = some g) :
    1 ≤ f.chan.evRoom c ∧ g = { f with isBackToBackWrite := false, timer := 0, txRetry := 0 }.post e := by
  unfold Fe.endExchange at h
  split at h
  · exact ⟨‹_›, (Option.some.inj h).symm⟩
  · cases h

theorem Fe.acceptCommand_cases {c : Config} {f g : Fe} (h : f.acceptCommand c = some g) :
    2 ≤ f.chan.txRoom c ∧ f.dlvValid = false ∧
      g = { ({ f with isAckAbortNeeded := false }.reply 0xA1).deliver 0xA4 with rxState := .waitStart } := by
  unfold Fe.acceptCommand at h
  split at h
  · rename_i hc; exact ⟨hc.1, hc.2, (Option.some.inj h).symm⟩
  · cases h

theorem Fe.acceptData_cases {c : Config} {f g : Fe} (h : f.acceptData c = some g) :
    2 ≤ f.chan.txRoom c ∧
      ((f.isAckAbortNeeded = true ∧ g = { f.reply 0xA3 with isAckAbortNeeded := false, rxState := .waitStart }) ∨
        (f.isAckAbortNeeded = false ∧ f.dlvValid = false ∧
          g = { (f.reply 0xA1).deliver 0xA5 with rxState := .waitStart })) := by
  unfold Fe.acceptData at h
  split at h
  · split at h
    · exact ⟨‹_›, .inl ⟨‹_›, (Option.some.inj h).symm⟩⟩
    · cases h
  · split at h
    · rename_i ha hc
      exact ⟨hc.1, .inr ⟨Bool.eq_false_iff.mpr ha, hc.2, (Option.some.inj h).symm⟩⟩
    · cases h

theorem Fe.validate_cases {c : Config} {f g : Fe} (h : f.validate c = some g) :
    f.nak c = some g ∨
      (packetCrc f.pktType f.pktLen (f.pktBuf.take f.pktLen.toNat) = f.pktCrc ∧
        ((f.pktType = 0xA4 ∧ f.acceptCommand c = some g) ∨ (f.pktType ≠ 0xA4 ∧ f.acceptData c = some g))) := by
  unfold Fe.validate at h
  split at h
  · exact .inl h
  · rename_i hc
    refine .inr ⟨not_not.mp hc, ?_⟩
    split at h
    · exact .inl ⟨‹_›, h⟩
    · exact .inr ⟨‹_›, h⟩

/-! ## XR rules -/

theorem Xr.eotRule_cases {c : Config} {x y : Xr} (h : x.eotRule c = some y) :
    1 ≤ x.chan.txRoom c ∧ 1 ≤ x.chan.evRoom c ∧
      y = { (x.txPush [0x06]).post (.xrDone (x.expectedSeq - 1)) with state := .done } := by
  unfold Xr.eotRule at h
  split at h
  · rename_i hc; exact ⟨hc.1, hc.2, (Option.some.inj h).symm⟩
  · cases h

theorem Xr.canRule_cases {c : Config} {x y : Xr} (h : x.canRule c = some y) :
    1 ≤ x.chan.evRoom c ∧ y = x.failureEntry .cancelled (.xrCancelled x.expectedSeq) := by
  unfold Xr.canRule at h
  split at h
  · exact ⟨‹_›, (Option.some.inj h).symm⟩
  · cases h

theorem Xr.failurePath_cases {c : Config} {x y : Xr} (h : x.failurePath c = some y) :
    (x.retry = c.xrMaxRetries ∧ 1 ≤ x.chan.evRoom c ∧ y = x.failureEntry .failed (.xrBadMessage x.expectedSeq)) ∨
      (x.retry ≠ c.xrMaxRetries ∧ 1 ≤ x.chan.txRoom c ∧
        y = { x.txPush [x.retryByte] with retry := x.retry + 1, state := .waitHeader }) := by
  unfold Xr.failurePath at h
  split at h
  · split at h
    · exact .inl ⟨‹_›, ‹_›, (Option.some.inj h).symm⟩
    · cases h
  · split at h
    · exact .inr ⟨‹_›, ‹_›, (Option.some.inj h).symm⟩
    · cases h

theorem Xr.accept_cases {c : Config} {x y : Xr} (h : x.accept c = some y) :
    1 ≤ x.chan.txRoom c ∧ 1 ≤ x.chan.evRoom c ∧
      y = { (x.post (.xrFrame x.rxSeq (BitVec.ofNat 16 x.frameSize) (x.buf.take x.frameSize))).txPush [0x06] with
        expectedSeq := x.expectedSeq + 1, retry := 0, first := false, state := .waitHeader } := by
  unfold Xr.accept at h
  split at h
  · rename_i hc; exact ⟨hc.1, hc.2, (Option.some.inj h).symm⟩
  · cases h

theorem Xr.validate_cases {c : Config} {x y : Xr} (h : x.validate c = some y) :
    (x.rxSeq = x.expectedSeq ∧ x.checkOk = true ∧ { x with count := 0, tcount := 0 }.accept c = some y) ∨
      (¬(x.rxSeq = x.expectedSeq ∧ x.checkOk = true) ∧ { x with count := 0, tcount := 0 }.failurePath c = some y) := by
  unfold Xr.validate at h
  dsimp only at h
  split at h
  · rename_i hc; exact .inl ⟨hc.1, hc.2, h⟩
  · rename_i hc; exact .inr ⟨hc, h⟩

/-! ## XT rules -/

theorem Xt.selectMode_cases {c : Config} {x y : Xt} {m : CheckMode} (h : x.selectMode m c = some y) :
    1 ≤ x.chan.evRoom c ∧ y = { x.post (.xtReady (m.bit.setWidth 8)) with mode := m, state := .waitFrame } := by
  unfold Xt.selectMode at h
  split at h
  · exact ⟨‹_›, (Option.some.inj h).symm⟩
  · cases h

theorem Xt.canRule_cases {c : Config} {x y : Xt} (h : x.canRule c = some y) :
    1 ≤ x.chan.evRoom c ∧ y = x.failureEntry .cancelled [] (.xtCancelled x.seq) := by
  unfold Xt.canRule at h
  split at h
  · exact ⟨‹_›, (Option.some.inj h).symm⟩
  · cases h

theorem Xt.exhausted_cases {c : Config} {x y : Xt} (h : x.exhausted c = some y) :
    3 ≤ x.chan.txRoom c ∧ 1 ≤ x.chan.evRoom c ∧ y = x.failureEntry .failed canThree (.xtRetriesExhausted x.seq) := by
  unfold Xt.exhausted at h
  split at h
  · rename_i hc; exact ⟨hc.1, hc.2, (Option.some.inj h).symm⟩
  · cases h

theorem Xt.frameNaked_cases {c : Config} {x y : Xt} (h : x.frameNaked c = some y) :
    (x.retry = c.xtMaxRetries ∧ x.exhausted c = some y) ∨
      (x.retry ≠ c.xtMaxRetries ∧
        y = { x with retry := x.retry + 1, sent := 0, tidx := false, state := .sendHeader, timer := 0 }) := by
  unfold Xt.frameNaked at h
  split at h
  · exact .inl ⟨‹_›, h⟩
  · exact .inr ⟨‹_›, (Option.some.inj h).symm⟩

theorem Xt.eotNaked_cases {c : Config} {x y : Xt} (h : x.eotNaked c = some y) :
    (x.retry = c.xtMaxRetries ∧ x.exhausted c = some y) ∨
      (x.retry ≠ c.xtMaxRetries ∧ 1 ≤ x.chan.txRoom c ∧
        y = { x.txPush [0x04] with retry := x.retry + 1, timer := c.xtAckTimeout }) := by
  unfold Xt.eotNaked at h
  split at h
  · exact .inl ⟨‹_›, h⟩
  · split at h
    · exact .inr ⟨‹_›, ‹_›, (Option.some.inj h).symm⟩
    · cases h

theorem Xt.eotAcked_cases {c : Config} {x y : Xt} (h : x.eotAcked c = some y) :
    1 ≤ x.chan.evRoom c ∧ y = { x.post (.xtDone x.total) with state := .done, timer := 0 } := by
  unfold Xt.eotAcked at h
  split at h
  · exact ⟨‹_›, (Option.some.inj h).symm⟩
  · cases h

theorem Xt.frameAcked_cases {c : Config} {x y : Xt} (h : x.frameAcked c = some y) :
    1 ≤ x.chan.evRoom c ∧
      ((x.short = true ∧ 1 ≤ x.chan.txRoom c ∧
          y = { (x.post (.xtAcked x.seq (x.dataLen.setWidth 16) 1)).txPush [0x04] with
            total := x.total + x.dataLen.setWidth 32, seq := x.seq + 1, retry := 0
            state := .awaitEotAck, timer := c.xtAckTimeout }) ∨
        (x.short = false ∧
          y = { x.post (.xtAcked x.seq (x.dataLen.setWidth 16) 0) with
            total := x.total + x.dataLen.setWidth 32, seq := x.seq + 1, retry := 0
            state := .waitFrame, timer := 0 })) := by
  unfold Xt.frameAcked at h
  split at h
  · rename_i hc
    refine ⟨hc.1, ?_⟩
    cases hs : x.short with
    | true =>
      rw [hs] at h hc
      exact .inl ⟨rfl, hc.2.resolve_left (by simp), (Option.some.inj h).symm⟩
    | false =>
      rw [hs] at h
      exact .inr ⟨rfl, (Option.some.inj h).symm⟩
  · cases h

theorem Xt.emit_cases {c : Config} {x y : Xt} (h : x.emit c = some y) :
    1 ≤ x.chan.txRoom c ∧
      ((x.state = .sendHeader ∧ y = x.emitHeader) ∨ (x.state = .sendSequence ∧ y = x.emitSequence) ∨
        (x.state = .sendSequenceComplement ∧ y = x.emitComplement) ∨
        (x.state = .sendData ∧ x.emitData = some y) ∨ (x.state = .sendChecksum ∧ y = x.emitChecksum c)) := by
  unfold Xt.emit at h
  split at h
  · cases h
  · refine ⟨by omega, ?_⟩
    split at h <;> first | (cases h; done) | (simp_all only [Option.some.injEq, reduceCtorEq, false_and, true_and, false_or, or_false])

/-! ## Ticks -/

theorem Fe.tick_cases {c : Config} {f g : Fe} (h : f.tick c = some g) :
    (f.timer = 0 ∧ g = f) ∨ (f.timer ≠ 0 ∧ f.timer ≠ 1 ∧ g = { f with timer := f.timer - 1 }) ∨
      (f.timer = 1 ∧ 1 ≤ f.chan.evRoom c ∧
        g = { f with timer := 0, isBackToBackWrite := false, txRetry := 0 }.post (.feTxTimeout f.txCopyType)) := by
  unfold Fe.tick at h
  split at h
  · exact .inl ⟨‹_›, (Option.some.inj h).symm⟩
  · split at h
    · exact .inr (.inl ⟨‹_›, ‹_›, (Option.some.inj h).symm⟩)
    · split at h
      · rename_i h1 h2; exact .inr (.inr ⟨not_not.mp h1, h2, (Option.some.inj h).symm⟩)
      · cases h

theorem Xr.tick_cases {c : Config} {x y : Xr} (h : x.tick c = some y) :
    (x.timer = 0 ∧ y = x) ∨ (x.timer ≠ 0 ∧ x.timer ≠ 1 ∧ y = { x with timer := x.timer - 1 }) ∨
      (x.timer = 1 ∧ 1 ≤ x.chan.evRoom c ∧ y = x.failureEntry .failed (.xrTimeout x.expectedSeq)) := by
  unfold Xr.tick at h
  split at h
  · exact .inl ⟨‹_›, (Option.some.inj h).symm⟩
  · split at h
    · exact .inr (.inl ⟨‹_›, ‹_›, (Option.some.inj h).symm⟩)
    · split at h
      · rename_i h1 h2; exact .inr (.inr ⟨not_not.mp h1, h2, (Option.some.inj h).symm⟩)
      · cases h

theorem Xt.tick_cases {c : Config} {x y : Xt} (h : x.tick c = some y) :
    (x.timer = 0 ∧ y = x) ∨ (x.timer ≠ 0 ∧ x.timer ≠ 1 ∧ y = { x with timer := x.timer - 1 }) ∨
      (x.timer = 1 ∧ 3 ≤ x.chan.txRoom c ∧ 1 ≤ x.chan.evRoom c ∧
        y = x.failureEntry .failed canThree (.xtTimeout x.seq)) := by
  unfold Xt.tick at h
  split at h
  · exact .inl ⟨‹_›, (Option.some.inj h).symm⟩
  · split at h
    · exact .inr (.inl ⟨‹_›, ‹_›, (Option.some.inj h).symm⟩)
    · split at h
      · rename_i h1 h2; exact .inr (.inr ⟨not_not.mp h1, h2.1, h2.2, (Option.some.inj h).symm⟩)
      · cases h

end Sys2Proof.Machine
end

