-- ==== Sys2Proof/Laws/PerInstr.lean ====
section
/-! SUPPORT. One lemma per constructor of `Instr`: the bits its encoding carries are those of its row of
spec/opcode_table.json (R101, R109, R121, R130). -/

namespace Sys2Proof.Laws.TableWord

/-- The row of the opcode table an instruction stands for: how many bits it has, and their value. -/
def row : Instr → Nat × Nat
  | .regRead _ => (8, 0x01)
  | .regWrite _ _ => (8, 0x02)
  | .evPop _ => (8, 0x03)
  | .feSend _ _ _ => (8, 0x10)
  | .feTake => (8, 0x11)
  | .feAbortDataPhase => (8, 0x12)
  | .feClrOvf => (8, 0x13)
  | .xrStart _ => (8, 0x20)
  | .xrCancel => (8, 0x21)
  | .xrClrOvf => (8, 0x22)
  | .xtStart => (8, 0x30)
  | .xtSendFrame _ _ => (8, 0x31)
  | .xtOver => (8, 0x32)
  | .xtCancel => (8, 0x33)
  | .xtClrOvf => (8, 0x34)
  | .crcInit _ => (8, 0x40)
  | .crcFeed _ => (8, 0x41)
  | .kftAck => (16, 0x5AA1)
  | .kftNak => (16, 0x5AA2)
  | .kftAckAbort => (16, 0x5AA3)
  | .kftCommand => (16, 0x5AA4)
  | .kftData => (16, 0x5AA5)
  | .kftPing => (16, 0x5AA6)
  | .kftPingResponse => (16, 0x5AA7)
  | .xrSoh => (8, 0x01)
  | .xrStx => (8, 0x02)
  | .xrEot => (8, 0x04)
  | .xrCan => (8, 0x18)
  | .xtModeCrc => (8, 0x43)
  | .xtModeChecksum => (8, 0x15)
  | .xtAck => (8, 0x06)
  | .xtNak => (8, 0x15)
  | .xtCan => (8, 0x18)

/-- The encoding of `i` carries exactly the bits of its row. -/
def Statement (i : Instr) : Prop := (encode i).tableWord = row i

theorem regRead (reg : Byte) : Statement (.regRead reg) := rfl
theorem regWrite (reg : Byte) (value : Word) : Statement (.regWrite reg value) := rfl
theorem evPop (unit : Byte) : Statement (.evPop unit) := rfl
theorem feSend (type : Byte) (len : Half) (bytes : List Byte) : Statement (.feSend type len bytes) := rfl
theorem feTake : Statement (.feTake) := rfl
theorem feAbortDataPhase : Statement (.feAbortDataPhase) := rfl
theorem feClrOvf : Statement (.feClrOvf) := rfl
theorem xrStart (mode : Byte) : Statement (.xrStart mode) := rfl
theorem xrCancel : Statement (.xrCancel) := rfl
theorem xrClrOvf : Statement (.xrClrOvf) := rfl
theorem xtStart : Statement (.xtStart) := rfl
theorem xtSendFrame (n : Half) (bytes : List Byte) : Statement (.xtSendFrame n bytes) := rfl
theorem xtOver : Statement (.xtOver) := rfl
theorem xtCancel : Statement (.xtCancel) := rfl
theorem xtClrOvf : Statement (.xtClrOvf) := rfl
theorem crcInit (mode : Byte) : Statement (.crcInit mode) := rfl
theorem crcFeed (byte : Byte) : Statement (.crcFeed byte) := rfl
theorem kftAck : Statement (.kftAck) := rfl
theorem kftNak : Statement (.kftNak) := rfl
theorem kftAckAbort : Statement (.kftAckAbort) := rfl
theorem kftCommand : Statement (.kftCommand) := rfl
theorem kftData : Statement (.kftData) := rfl
theorem kftPing : Statement (.kftPing) := rfl
theorem kftPingResponse : Statement (.kftPingResponse) := rfl
theorem xrSoh : Statement (.xrSoh) := rfl
theorem xrStx : Statement (.xrStx) := rfl
theorem xrEot : Statement (.xrEot) := rfl
theorem xrCan : Statement (.xrCan) := rfl
theorem xtModeCrc : Statement (.xtModeCrc) := rfl
theorem xtModeChecksum : Statement (.xtModeChecksum) := rfl
theorem xtAck : Statement (.xtAck) := rfl
theorem xtNak : Statement (.xtNak) := rfl
theorem xtCan : Statement (.xtCan) := rfl

end Sys2Proof.Laws.TableWord
end

