-- ==== Sys2Proof/Laws/Turns.lean ====
section
/-! SUPPORT. What a turn and a run of turns can do, each said once: every instruction and every turn answers a next
state, a tick runs its unit's rule or is kept (R64, D3), and a run of turns is cut at its first turn. -/

namespace Sys2Proof.Machine

/-! ## Outcomes -/

theorem exec_next (i : Instr) (s : State) : ∃ t, exec i s = .next t := by
  cases i <;>
    simp only [exec, execRegRead, execRegWrite, execEvPop, execFeSend, execFeTake, execFeAbortDataPhase, execFeClrOvf,
      execXrStart, execXrCancel, execXrClrOvf, execXtStart, execXtSendFrame, execXtOver, execXtCancel, execXtClrOvf,
      execCrcInit, execCrcFeed, execKftAck, execKftNak, execKftAckAbort, execKftCommand, execKftData, execKftPing,
      execKftPingResponse, execXrSoh, execXrStx, execXrEot, execXrCan, execXtModeCrc, execXtModeChecksum, execXtAck,
      execXtNak, execXtCan] <;>
    repeat' first
      | exact ⟨_, rfl⟩
      | split

theorem takeTurn_of_instr {s : State} {turn : Turn} {e : Encoding} {i : Instr} (hf : fetch s turn = some e)
    (hd : decode e = .instr i) : takeTurn turn s = exec i s := by
  simp only [takeTurn, hf, hd]

theorem takeTurn_of_reject {s : State} {turn : Turn} {e : Encoding} {r : Reject} (hf : fetch s turn = some e)
    (hd : decode e = .reject r) : takeTurn turn s = .next (defaultRule s turn) := by
  simp only [takeTurn, hf, hd]

theorem takeTurn_of_none {s : State} {turn : Turn} (hf : fetch s turn = none) :
    takeTurn turn s = .next (plainTurn s turn) := by
  simp only [takeTurn, hf]

theorem takeTurn_next (turn : Turn) (s : State) : ∃ t, takeTurn turn s = .next t := by
  unfold takeTurn
  split
  · exact ⟨_, rfl⟩
  · split
    · exact exec_next _ s
    · exact ⟨_, rfl⟩

/-! ## Port steps -/

theorem tickTurn_cases (s : State) (u : UnitId) :
    (∃ t, tickUnit s u = some t ∧ tickTurn s u = t) ∨
      (tickUnit s u = none ∧ tickTurn s u = s.setTicks (s.ticks.set u (s.ticks.get u + 1))) := by
  unfold tickTurn
  split
  · exact .inl ⟨_, ‹_›, rfl⟩
  · exact .inr ⟨‹_›, rfl⟩

theorem retryTickTurn_cases (s : State) (u : UnitId) :
    retryTickTurn s u = s ∨ ∃ t, s.ticks.get u ≠ 0 ∧ tickUnit s u = some t ∧
      retryTickTurn s u = t.setTicks (t.ticks.set u (t.ticks.get u - 1)) := by
  unfold retryTickTurn
  split
  · exact .inl rfl
  · split
    · exact .inr ⟨_, ‹_›, ‹_›, rfl⟩
    · exact .inl rfl

theorem popByte_cases (s : State) (u : UnitId) :
    popByte s u = s ∨ ∃ b ch, (s.chanOf u).txPop = some (b, ch) ∧
      popByte s u = (s.setChan u ch).setWire (some (u, b)) := by
  unfold popByte
  split
  · exact .inl rfl
  · exact .inr ⟨_, _, ‹_›, rfl⟩

theorem emitTurn_cases (s : State) :
    emitTurn s = s ∨ ∃ x, s.xt.emit s.cfg = some x ∧ emitTurn s = s.setXt x := by
  unfold emitTurn
  split
  · exact .inr ⟨_, ‹_›, rfl⟩
  · exact .inl rfl

/-! ## Host commands -/

/-- The host commands the decoder reads, with the lanes each takes (R121). -/
theorem decode_command_cases {c : Command} {i : Instr} (h : decode (.command c) = .instr i) :
    (c.op = 0x01 ∧ i = .regRead c.arg8) ∨
      (c.op = 0x02 ∧ i = .regWrite c.arg8 c.arg32) ∨
      (c.op = 0x03 ∧ i = .evPop c.arg8) ∨
      (c.op = 0x10 ∧ i = .feSend c.arg8 c.arg16 c.bytes) ∨
      (c.op = 0x11 ∧ i = .feTake) ∨
      (c.op = 0x12 ∧ i = .feAbortDataPhase) ∨
      (c.op = 0x13 ∧ i = .feClrOvf) ∨
      (c.op = 0x20 ∧ i = .xrStart c.arg8) ∨
      (c.op = 0x21 ∧ i = .xrCancel) ∨
      (c.op = 0x22 ∧ i = .xrClrOvf) ∨
      (c.op = 0x30 ∧ i = .xtStart) ∨
      (c.op = 0x31 ∧ i = .xtSendFrame c.arg16 c.bytes) ∨
      (c.op = 0x32 ∧ i = .xtOver) ∨
      (c.op = 0x33 ∧ i = .xtCancel) ∨
      (c.op = 0x34 ∧ i = .xtClrOvf) ∨
      (c.op = 0x40 ∧ i = .crcInit c.arg8) ∨
      (c.op = 0x41 ∧ i = .crcFeed c.arg8) := by
  simp only [decode, decodeCommand] at h
  by_cases e : c.op = 0x01
  · rw [if_pos e] at h
    exact .inl ⟨e, (Decoded.instr.inj h).symm⟩
  rw [if_neg e] at h
  clear e
  by_cases e : c.op = 0x02
  · rw [if_pos e] at h
    exact .inr (.inl ⟨e, (Decoded.instr.inj h).symm⟩)
  rw [if_neg e] at h
  clear e
  by_cases e : c.op = 0x03
  · rw [if_pos e] at h
    exact .inr (.inr (.inl ⟨e, (Decoded.instr.inj h).symm⟩))
  rw [if_neg e] at h
  clear e
  by_cases e : c.op = 0x10
  · rw [if_pos e] at h
    exact .inr (.inr (.inr (.inl ⟨e, (Decoded.instr.inj h).symm⟩)))
  rw [if_neg e] at h
  clear e
  by_cases e : c.op = 0x11
  · rw [if_pos e] at h
    exact .inr (.inr (.inr (.inr (.inl ⟨e, (Decoded.instr.inj h).symm⟩))))
  rw [if_neg e] at h
  clear e
  by_cases e : c.op = 0x12
  · rw [if_pos e] at h
    exact .inr (.inr (.inr (.inr (.inr (.inl ⟨e, (Decoded.instr.inj h).symm⟩)))))
  rw [if_neg e] at h
  clear e
  by_cases e : c.op = 0x13
  · rw [if_pos e] at h
    exact .inr (.inr (.inr (.inr (.inr (.inr (.inl ⟨e, (Decoded.instr.inj h).symm⟩))))))
  rw [if_neg e] at h
  clear e
  by_cases e : c.op = 0x20
  · rw [if_pos e] at h
    exact .inr (.inr (.inr (.inr (.inr (.inr (.inr (.inl ⟨e, (Decoded.instr.inj h).symm⟩)))))))
  rw [if_neg e] at h
  clear e
  by_cases e : c.op = 0x21
  · rw [if_pos e] at h
    exact .inr (.inr (.inr (.inr (.inr (.inr (.inr (.inr (.inl ⟨e, (Decoded.instr.inj h).symm⟩))))))))
  rw [if_neg e] at h
  clear e
  by_cases e : c.op = 0x22
  · rw [if_pos e] at h
    exact .inr (.inr (.inr (.inr (.inr (.inr (.inr (.inr (.inr (.inl ⟨e, (Decoded.instr.inj h).symm⟩)))))))))
  rw [if_neg e] at h
  clear e
  by_cases e : c.op = 0x30
  · rw [if_pos e] at h
    exact .inr (.inr (.inr (.inr (.inr (.inr (.inr (.inr (.inr (.inr (.inl ⟨e, (Decoded.instr.inj h).symm⟩))))))))))
  rw [if_neg e] at h
  clear e
  by_cases e : c.op = 0x31
  · rw [if_pos e] at h
    exact .inr (.inr (.inr (.inr (.inr (.inr (.inr (.inr (.inr (.inr (.inr (.inl ⟨e, (Decoded.instr.inj h).symm⟩)))))))))))
  rw [if_neg e] at h
  clear e
  by_cases e : c.op = 0x32
  · rw [if_pos e] at h
    exact .inr (.inr (.inr (.inr (.inr (.inr (.inr (.inr (.inr (.inr (.inr (.inr (.inl ⟨e, (Decoded.instr.inj h).symm⟩))))))))))))
  rw [if_neg e] at h
  clear e
  by_cases e : c.op = 0x33
  · rw [if_pos e] at h
    exact .inr (.inr (.inr (.inr (.inr (.inr (.inr (.inr (.inr (.inr (.inr (.inr (.inr (.inl ⟨e, (Decoded.instr.inj h).symm⟩)))))))))))))
  rw [if_neg e] at h
  clear e
  by_cases e : c.op = 0x34
  · rw [if_pos e] at h
    exact .inr (.inr (.inr (.inr (.inr (.inr (.inr (.inr (.inr (.inr (.inr (.inr (.inr (.inr (.inl ⟨e, (Decoded.instr.inj h).symm⟩))))))))))))))
  rw [if_neg e] at h
  clear e
  by_cases e : c.op = 0x40
  · rw [if_pos e] at h
    exact .inr (.inr (.inr (.inr (.inr (.inr (.inr (.inr (.inr (.inr (.inr (.inr (.inr (.inr (.inr (.inl ⟨e, (Decoded.instr.inj h).symm⟩)))))))))))))))
  rw [if_neg e] at h
  clear e
  by_cases e : c.op = 0x41
  · rw [if_pos e] at h
    exact .inr (.inr (.inr (.inr (.inr (.inr (.inr (.inr (.inr (.inr (.inr (.inr (.inr (.inr (.inr (.inr (⟨e, (Decoded.instr.inj h).symm⟩))))))))))))))))
  rw [if_neg e] at h
  clear e
  cases h

/-- A host command runs its instruction, or is answered INVALID when its opcode is reserved (R122). -/
theorem takeTurn_command_cases {c : Command} {s t : State} (h : takeTurn (.command c) s = .next t) :
    t = s.respond .invalid .none ∨ ∃ i, decode (.command c) = .instr i ∧ exec i s = .next t := by
  cases hd : decode (.command c) with
  | instr i => exact .inr ⟨i, rfl, (takeTurn_of_instr rfl hd).symm.trans h⟩
  | reject r => exact .inl (Host.Outcome.next.inj ((takeTurn_of_reject rfl hd).symm.trans h)).symm

/-! ## Byte steps of each unit -/

/-- What an FE byte step can do: nothing, or the rule of its state and byte (R160, R162), then the consume. -/
theorem feStep_cases {s t : State} (h : takeTurn (.byteStep .fe) s = .next t) :
    t = s ∨ ∃ b g, s.fe.chan.rxHead = some b ∧ t = s.setFe (g.consume s.cfg) ∧
      ((s.fe.rxState ≠ .waitType ∧ s.fe.dataByte s.cfg b = some g) ∨
        (s.fe.rxState = .waitType ∧
          ((b = 0xA1 ∧ s.fe.ackRule s.cfg = some g) ∨ (b = 0xA2 ∧ s.fe.nakRule s.cfg = some g) ∨
            (b = 0xA3 ∧ s.fe.ackAbortRule s.cfg = some g) ∨ (b = 0xA4 ∧ g = s.fe.openPacket 0xA4) ∨
            (b = 0xA5 ∧ g = s.fe.openPacket 0xA5) ∨ (b = 0xA6 ∧ s.fe.pingRule s.cfg = some g) ∨
            (b = 0xA7 ∧ g = { s.fe with rxState := .waitStart }) ∨ g = s.fe.otherTypeByte b))) := by
  by_cases hw : s.fe.rxState = .waitType
  · cases hb : s.fe.chan.rxHead with
    | none =>
      rw [takeTurn_of_none (by simp only [fetch, hw, hb, if_true]; rfl)] at h
      cases h
      exact .inl (by simp only [plainTurn, State.feByte, hb])
    | some b =>
      have hf : fetch s (.byteStep .fe) = some (.kftHeader 0x5A b) := by simp only [fetch, hw, hb, if_true]; rfl
      have hold : ∀ {rule : Config → Fe → Option Fe} {ty : Byte}, State.feToken s ty rule = t → b = ty →
          t = s ∨ ∃ g, t = s.setFe (g.consume s.cfg) ∧ rule s.cfg s.fe = some g := by
        intro rule ty ht _
        rcases s.feToken_cases ty rule with h' | ⟨g, _, _, hg, h'⟩
        · exact .inl (ht.symm.trans h')
        · exact .inr ⟨g, ht.symm.trans h', hg⟩
      by_cases e1 : b = 0xA1
      · rw [takeTurn_of_instr hf (i := .kftAck) (by rw [e1]; rfl)] at h
        rcases hold (Host.Outcome.next.inj h) e1 with h' | ⟨g, h', hg⟩
        · exact .inl h'
        · exact .inr ⟨b, g, rfl, h', .inr ⟨hw, .inl ⟨e1, hg⟩⟩⟩
      by_cases e2 : b = 0xA2
      · rw [takeTurn_of_instr hf (i := .kftNak) (by rw [e2]; rfl)] at h
        rcases hold (Host.Outcome.next.inj h) e2 with h' | ⟨g, h', hg⟩
        · exact .inl h'
        · exact .inr ⟨b, g, rfl, h', .inr ⟨hw, .inr (.inl ⟨e2, hg⟩)⟩⟩
      by_cases e3 : b = 0xA3
      · rw [takeTurn_of_instr hf (i := .kftAckAbort) (by rw [e3]; rfl)] at h
        rcases hold (Host.Outcome.next.inj h) e3 with h' | ⟨g, h', hg⟩
        · exact .inl h'
        · exact .inr ⟨b, g, rfl, h', .inr ⟨hw, .inr (.inr (.inl ⟨e3, hg⟩))⟩⟩
      by_cases e4 : b = 0xA4
      · rw [takeTurn_of_instr hf (i := .kftCommand) (by rw [e4]; rfl)] at h
        rcases hold (Host.Outcome.next.inj h) e4 with h' | ⟨g, h', hg⟩
        · exact .inl h'
        · exact .inr ⟨b, g, rfl, h', .inr ⟨hw, .inr (.inr (.inr (.inl ⟨e4, (Option.some.inj hg).symm⟩)))⟩⟩
      by_cases e5 : b = 0xA5
      · rw [takeTurn_of_instr hf (i := .kftData) (by rw [e5]; rfl)] at h
        rcases hold (Host.Outcome.next.inj h) e5 with h' | ⟨g, h', hg⟩
        · exact .inl h'
        · exact .inr ⟨b, g, rfl, h', .inr ⟨hw, .inr (.inr (.inr (.inr (.inl ⟨e5, (Option.some.inj hg).symm⟩))))⟩⟩
      by_cases e6 : b = 0xA6
      · rw [takeTurn_of_instr hf (i := .kftPing) (by rw [e6]; rfl)] at h
        rcases hold (Host.Outcome.next.inj h) e6 with h' | ⟨g, h', hg⟩
        · exact .inl h'
        · exact .inr ⟨b, g, rfl, h', .inr ⟨hw, .inr (.inr (.inr (.inr (.inr (.inl ⟨e6, hg⟩)))))⟩⟩
      by_cases e7 : b = 0xA7
      · rw [takeTurn_of_instr hf (i := .kftPingResponse) (by rw [e7]; rfl)] at h
        rcases hold (Host.Outcome.next.inj h) e7 with h' | ⟨g, h', hg⟩
        · exact .inl h'
        · exact .inr ⟨b, g, rfl, h',
            .inr ⟨hw, .inr (.inr (.inr (.inr (.inr (.inr (.inl ⟨e7, (Option.some.inj hg).symm⟩))))))⟩⟩
      obtain ⟨r, hd⟩ : ∃ r, decode (.kftHeader 0x5A b) = .reject r := by
        by_cases e8 : b = 0x5A
        · exact ⟨.restart, by rw [e8]; rfl⟩
        · exact ⟨.unknownType b, by
            simp only [decode, decodeKftHeader, e1, e2, e3, e4, e5, e6, e7, e8, if_false, ne_eq, not_true_eq_false]⟩
      rw [takeTurn_of_reject hf hd] at h
      cases h
      refine .inr ⟨b, _, rfl, ?_, .inr ⟨hw, .inr (.inr (.inr (.inr (.inr (.inr (.inr rfl))))))⟩⟩
      simp only [defaultRule]
      exact State.feByte_taken hb rfl
  · rw [takeTurn_of_none (by simp only [fetch, hw, if_false])] at h
    cases h
    rcases s.feByte_cases Fe.dataByte with h' | ⟨b, g, hb, hg, h'⟩
    · exact .inl h'
    · exact .inr ⟨b, g, hb, h', .inl ⟨hw, hg⟩⟩

/-- What an XR byte step can do: nothing, or the rule of its state and byte (R225, R226), the timer settle and the
consume. -/
theorem xrStep_cases {s t : State} (h : takeTurn (.byteStep .xr) s = .next t) :
    t = s ∨ ∃ b y, s.xr.chan.rxHead = some b ∧ t = s.setXr ((y.settle s.cfg).consume s.cfg) ∧
      ((s.xr.state ≠ .waitHeader ∧ s.xr.dataByte s.cfg b = some y) ∨
        (s.xr.state = .waitHeader ∧
          ((b = 0x01 ∧ y = s.xr.openFrame false) ∨ (b = 0x02 ∧ y = s.xr.openFrame true) ∨
            (b = 0x04 ∧ s.xr.eotRule s.cfg = some y) ∨ (b = 0x18 ∧ s.xr.canRule s.cfg = some y) ∨ y = s.xr))) := by
  by_cases hw : s.xr.state = .waitHeader
  · cases hb : s.xr.chan.rxHead with
    | none =>
      rw [takeTurn_of_none (by simp only [fetch, hw, hb, if_true]; rfl)] at h
      cases h
      exact .inl (by simp only [plainTurn, State.xrByte, hb])
    | some b =>
      have hf : fetch s (.byteStep .xr) = some (.xrHeader b) := by simp only [fetch, hw, hb, if_true]; rfl
      have hold : ∀ {rule : Config → Xr → Option Xr} {ty : Byte}, State.xrToken s ty rule = t →
          t = s ∨ ∃ y, t = s.setXr ((y.settle s.cfg).consume s.cfg) ∧ rule s.cfg s.xr = some y := by
        intro rule ty ht
        rcases s.xrToken_cases ty rule with h' | ⟨y, _, _, hy, h'⟩
        · exact .inl (ht.symm.trans h')
        · exact .inr ⟨y, ht.symm.trans h', hy⟩
      by_cases e1 : b = 0x01
      · rw [takeTurn_of_instr hf (i := .xrSoh) (by rw [e1]; rfl)] at h
        rcases hold (Host.Outcome.next.inj h) with h' | ⟨y, h', hy⟩
        · exact .inl h'
        · exact .inr ⟨b, y, rfl, h', .inr ⟨hw, .inl ⟨e1, (Option.some.inj hy).symm⟩⟩⟩
      by_cases e2 : b = 0x02
      · rw [takeTurn_of_instr hf (i := .xrStx) (by rw [e2]; rfl)] at h
        rcases hold (Host.Outcome.next.inj h) with h' | ⟨y, h', hy⟩
        · exact .inl h'
        · exact .inr ⟨b, y, rfl, h', .inr ⟨hw, .inr (.inl ⟨e2, (Option.some.inj hy).symm⟩)⟩⟩
      by_cases e3 : b = 0x04
      · rw [takeTurn_of_instr hf (i := .xrEot) (by rw [e3]; rfl)] at h
        rcases hold (Host.Outcome.next.inj h) with h' | ⟨y, h', hy⟩
        · exact .inl h'
        · exact .inr ⟨b, y, rfl, h', .inr ⟨hw, .inr (.inr (.inl ⟨e3, hy⟩))⟩⟩
      by_cases e4 : b = 0x18
      · rw [takeTurn_of_instr hf (i := .xrCan) (by rw [e4]; rfl)] at h
        rcases hold (Host.Outcome.next.inj h) with h' | ⟨y, h', hy⟩
        · exact .inl h'
        · exact .inr ⟨b, y, rfl, h', .inr ⟨hw, .inr (.inr (.inr (.inl ⟨e4, hy⟩)))⟩⟩
      rw [takeTurn_of_reject hf (r := .noise b) (by simp only [decode, decodeXrHeader, e1, e2, e3, e4, if_false])] at h
      cases h
      refine .inr ⟨b, _, rfl, ?_, .inr ⟨hw, .inr (.inr (.inr (.inr rfl)))⟩⟩
      simp only [defaultRule]
      exact State.xrByte_taken hb rfl
  · rw [takeTurn_of_none (by simp only [fetch, hw, if_false])] at h
    cases h
    rcases s.xrByte_cases Xr.dataByte with h' | ⟨b, y, hb, hy, h'⟩
    · exact .inl h'
    · exact .inr ⟨b, y, hb, h', .inl ⟨hw, hy⟩⟩

/-- What an XT byte step can do: nothing, or the rule of its state and byte (R274 to R279, R287, R288, R292), then the
consume. -/
theorem xtStep_cases {s t : State} (h : takeTurn (.byteStep .xt) s = .next t) :
    t = s ∨ ∃ b y, s.xt.chan.rxHead = some b ∧ t = s.setXt (y.consume s.cfg) ∧
      ((s.xt.state = .awaitMode ∧ b = 0x43 ∧ s.xt.selectMode .crc s.cfg = some y) ∨
        (s.xt.state = .awaitMode ∧ b = 0x15 ∧ s.xt.selectMode .checksum s.cfg = some y) ∨
        (s.xt.state.awaiting = true ∧ b = 0x06 ∧ s.xt.ackRule s.cfg = some y) ∨
        (s.xt.state.awaiting = true ∧ b = 0x15 ∧ s.xt.nakRule s.cfg = some y) ∨
        (s.xt.state.active = true ∧ b = 0x18 ∧ s.xt.canRule s.cfg = some y) ∨
        y = s.xt.discardByte s.cfg) := by
  cases hb : s.xt.chan.rxHead with
  | none =>
    rw [takeTurn_of_none (by simp only [fetch, hb]; rfl)] at h
    cases h
    exact .inl (by simp only [plainTurn, State.xtByte, hb])
  | some b =>
    have hold : ∀ {here : XtState → Bool} {rule : Config → Xt → Option Xt} {ty : Byte}, State.xtToken s here ty rule = t →
        t = s ∨ ∃ y, here s.xt.state = true ∧ ty = b ∧ t = s.setXt (y.consume s.cfg) ∧ rule s.cfg s.xt = some y := by
      intro here rule ty ht
      rcases s.xtToken_cases here ty rule with h' | ⟨y, hs, hty, hy, h'⟩
      · exact .inl (ht.symm.trans h')
      · exact .inr ⟨y, hs, (Option.some.inj (hb.symm.trans hty)).symm, ht.symm.trans h', hy⟩
    have other : t = s.xtByte (fun c x _ => some (x.discardByte c)) →
        t = s.setXt ((s.xt.discardByte s.cfg).consume s.cfg) := fun ht => ht.trans (State.xtByte_taken hb rfl)
    have run : ∀ i : Instr, exec i s = .next t →
        (i = .xtModeCrc ∨ i = .xtModeChecksum ∨ i = .xtAck ∨ i = .xtNak ∨ i = .xtCan) →
        t = s ∨ ∃ y, t = s.setXt (y.consume s.cfg) ∧
          ((s.xt.state = .awaitMode ∧ b = 0x43 ∧ s.xt.selectMode .crc s.cfg = some y) ∨
            (s.xt.state = .awaitMode ∧ b = 0x15 ∧ s.xt.selectMode .checksum s.cfg = some y) ∨
            (s.xt.state.awaiting = true ∧ b = 0x06 ∧ s.xt.ackRule s.cfg = some y) ∨
            (s.xt.state.awaiting = true ∧ b = 0x15 ∧ s.xt.nakRule s.cfg = some y) ∨
            (s.xt.state.active = true ∧ b = 0x18 ∧ s.xt.canRule s.cfg = some y) ∨
            y = s.xt.discardByte s.cfg) := by
      rintro i hi (rfl | rfl | rfl | rfl | rfl) <;> rcases hold (Host.Outcome.next.inj hi) with h' | ⟨y, hs, hty, h', hy⟩
      · exact .inl h'
      · exact .inr ⟨y, h', .inl ⟨eq_of_beq hs, hty.symm, hy⟩⟩
      · exact .inl h'
      · exact .inr ⟨y, h', .inr (.inl ⟨eq_of_beq hs, hty.symm, hy⟩)⟩
      · exact .inl h'
      · exact .inr ⟨y, h', .inr (.inr (.inl ⟨hs, hty.symm, hy⟩))⟩
      · exact .inl h'
      · exact .inr ⟨y, h', .inr (.inr (.inr (.inl ⟨hs, hty.symm, hy⟩)))⟩
      · exact .inl h'
      · exact .inr ⟨y, h', .inr (.inr (.inr (.inr (.inl ⟨hs, hty.symm, hy⟩))))⟩
    have kind : ∀ {e : Encoding} {i : Instr}, xtSpace s.xt.state b = some e → decode e = .instr i →
        (i = .xtModeCrc ∨ i = .xtModeChecksum ∨ i = .xtAck ∨ i = .xtNak ∨ i = .xtCan) := by
      intro e i he hd
      cases hs : s.xt.state <;> rw [hs] at he <;> cases he <;>
        simp only [decode, decodeXtMode, decodeXtReply, decodeXtBusy] at hd <;>
        (repeat' first
          | (cases hd; done)
          | (obtain rfl := Decoded.instr.inj hd; simp)
          | split at hd)
    have hf : fetch s (.byteStep .xt) = xtSpace s.xt.state b := by simp only [fetch, hb, Option.bind_some]
    cases he : xtSpace s.xt.state b with
    | none =>
      rw [takeTurn_of_none (hf.trans he)] at h
      exact .inr ⟨b, _, rfl, other (Host.Outcome.next.inj h).symm, .inr (.inr (.inr (.inr (.inr rfl))))⟩
    | some e =>
      cases hd : decode e with
      | instr i =>
        rw [takeTurn_of_instr (hf.trans he) hd] at h
        rcases run i h (kind he hd) with h' | ⟨y, h', hy⟩
        · exact .inl h'
        · exact .inr ⟨b, y, rfl, h', hy⟩
      | reject r =>
        rw [takeTurn_of_reject (hf.trans he) hd] at h
        exact .inr ⟨b, _, rfl, other (Host.Outcome.next.inj h).symm, .inr (.inr (.inr (.inr (.inr rfl))))⟩

/-! ## Steps and runs -/

theorem step_of_empty {s : State} (h : s.agenda = []) : step s = .next s := by simp only [step, h]

theorem step_of_turn {s : State} {turn : Turn} {rest : List Turn} (h : s.agenda = turn :: rest) :
    step s = takeTurn turn (s.setAgenda rest) := by simp only [step, h]

theorem core_run_succ (M : Host.Core) (k : Nat) {s t : M.State} (h : M.step s = .next t) :
    M.run (k + 1) s = M.run k t := by rw [Host.Core.run, h]

theorem core_run_add (M : Host.Core) {a : Nat} (b : Nat) : ∀ {s t : M.State}, M.run a s = .next t →
    M.run (a + b) s = M.run b t := by
  induction a with
  | zero =>
    intro s t h
    rw [Nat.zero_add, ← Host.Outcome.next.inj h]
  | succ a ih =>
    intro s t h
    rw [Nat.add_right_comm]
    cases hs : M.step s with
    | next s' => rw [core_run_succ M _ hs] at h ⊢; exact ih h
    | fault r => rw [Host.Core.run, hs] at h; cases h
    | refused r => rw [Host.Core.run, hs] at h; cases h

theorem runTurns_nil (s : State) (after : List Turn) : runTurns s [] after = .next (s.setAgenda after) := rfl

/-- A run of turns, cut after its first turn. -/
theorem runTurns_cons {s t : State} {turn : Turn} {turns after : List Turn}
    (h : takeTurn turn (s.setAgenda (turns ++ after)) = .next t) (ha : t.agenda = turns ++ after) :
    runTurns s (turn :: turns) after = runTurns t turns after := by
  have ht : t.setAgenda (turns ++ after) = t := by rw [← ha]; rfl
  have hs := core_run_succ Sys2Proof.core turns.length (s := s.setAgenda (turn :: turns ++ after)) h
  unfold runTurns
  rw [ht]
  exact hs

/-- A run of turns, cut after a first part. -/
theorem runTurns_append {s t : State} {first turns after : List Turn} (h : runTurns s first (turns ++ after) = .next t)
    (ha : t.agenda = turns ++ after) : runTurns s (first ++ turns) after = runTurns t turns after := by
  have ht : t.setAgenda (turns ++ after) = t := by rw [← ha]; rfl
  have hs := core_run_add Sys2Proof.core turns.length h
  unfold runTurns
  rw [ht, List.length_append, List.append_assoc]
  exact hs

end Sys2Proof.Machine
end

