-- ==== Sys2Proof/Tests/Slice0.lean ====
section
/-! SUPPORT. The writer's own tests: the well-formedness smoke test, the decoding of a word of every row written out
from spec/30_encoding.md, at most two one-step tests per instruction, and for every statement with hypotheses a
witness that they can be met. Expected values are those of spec/95_test_vectors.md, named V-..., or worked by hand from
the rule named. -/

namespace Sys2Proof.Tests

open Sys2Proof.Machine

set_option Elab.async false

/-! ## Helpers -/

/-- The next state of an outcome, if it is one. -/
def nx : Host.Outcome State Fault Refusal → Option State
  | .next t => some t
  | _ => none

/-- What `f` reads in the state after `i`. -/
def after {α : Type} (i : Instr) (s : State) (f : State → α) : Option α := (nx (exec i s)).map f

/-- What `f` reads in the state after a turn. -/
def afterTurn {α : Type} (t : Turn) (s : State) (f : State → α) : Option α := (nx (takeTurn t s)).map f

/-- The reset state with one unit changed. -/
def fe (f : Fe → Fe) : State := { State.reset with fe := f State.reset.fe }
def xr (f : Xr → Xr) : State := { State.reset with xr := f State.reset.xr }
def xt (f : Xt → Xt) : State := { State.reset with xt := f State.reset.xt }

/-- A unit's channel after its peer delivered `bytes`. -/
def ring (bytes : List Byte) : Channel :=
  bytes.foldl (fun ch b => ch.rxPush Config.vectors b) (Channel.reset Config.vectors)

/-- FE in a parser state with one byte waiting. -/
def feByte (st : RxState) (b : Byte) (f : Fe → Fe) : State :=
  fe fun x => { f x with rxState := st, chan := ring [b] }
/-- XR in a state with one byte waiting. -/
def xrByte (st : XrState) (b : Byte) (f : Xr → Xr) : State :=
  xr fun x => { f x with state := st, chan := ring [b] }
/-- XT in a state with one byte waiting. -/
def xtByte (st : XtState) (b : Byte) (f : Xt → Xt) : State :=
  xt fun x => { f x with state := st, chan := ring [b] }

/-- The status of the last command. -/
def status (s : State) : Option Status := s.response.map (·.status)

/-- FE owing an acknowledgement for `5A A5 02 00 AF 26 11 22` (V-KFT-7). -/
def owing (f : Fe) : Fe :=
  { f with isBackToBackWrite := true, txCopyType := 0xA5, txCopy := [0x5A, 0xA5, 2, 0, 0xAF, 0x26, 0x11, 0x22] }

/-- The bytes 00 01 .. 7F (V-CRC-3). -/
def ramp : List Byte := (List.range 128).map (BitVec.ofNat 8)

/-! ## Well-formedness -/

theorem test_wf_refuses_short_fe_send : (Instr.feSend 0xA4 2 [0x11]).wellFormed = false := by decide
theorem test_wf_refuses_long_fe_send : (Instr.feSend 0xA4 0 [0x11]).wellFormed = false := by decide
theorem test_wf_refuses_short_xt_frame : (Instr.xtSendFrame 3 [0x41, 0x42]).wellFormed = false := by decide
theorem test_wf_takes_exact_lengths :
    (Instr.feSend 0xA4 2 [0x11, 0x22]).WellFormed ∧ (Instr.xtSendFrame 1 [0x41]).WellFormed ∧
      (Instr.regRead 0xFF).WellFormed := by decide

/-! ## Decoding: one word per row, from R121, R101 and R109 -/

theorem test_decode_host :
    decode (.command ⟨0x01, 0x05, 9, 9, []⟩) = .instr (.regRead 0x05) ∧
    decode (.command ⟨0x02, 0x00, 9, 0x00000100, []⟩) = .instr (.regWrite 0x00 0x00000100) ∧
    decode (.command ⟨0x03, 0x02, 9, 9, []⟩) = .instr (.evPop 0x02) ∧
    decode (.command ⟨0x10, 0xA5, 0x0002, 9, [0x11, 0x22]⟩) = .instr (.feSend 0xA5 0x0002 [0x11, 0x22]) ∧
    decode (.command ⟨0x11, 9, 9, 9, []⟩) = .instr .feTake ∧
    decode (.command ⟨0x12, 9, 9, 9, []⟩) = .instr .feAbortDataPhase ∧
    decode (.command ⟨0x13, 9, 9, 9, []⟩) = .instr .feClrOvf ∧
    decode (.command ⟨0x20, 0x01, 9, 9, []⟩) = .instr (.xrStart 0x01) ∧
    decode (.command ⟨0x21, 9, 9, 9, []⟩) = .instr .xrCancel ∧
    decode (.command ⟨0x22, 9, 9, 9, []⟩) = .instr .xrClrOvf ∧
    decode (.command ⟨0x30, 9, 9, 9, []⟩) = .instr .xtStart ∧
    decode (.command ⟨0x31, 9, 0x0003, 9, [0x41, 0x42, 0x43]⟩) = .instr (.xtSendFrame 0x0003 [0x41, 0x42, 0x43]) ∧
    decode (.command ⟨0x32, 9, 9, 9, []⟩) = .instr .xtOver ∧
    decode (.command ⟨0x33, 9, 9, 9, []⟩) = .instr .xtCancel ∧
    decode (.command ⟨0x34, 9, 9, 9, []⟩) = .instr .xtClrOvf ∧
    decode (.command ⟨0x40, 0x01, 9, 9, []⟩) = .instr (.crcInit 0x01) ∧
    decode (.command ⟨0x41, 0x31, 9, 9, []⟩) = .instr (.crcFeed 0x31) := by decide

theorem test_decode_kft :
    decode (.kftHeader 0x5A 0xA1) = .instr .kftAck ∧ decode (.kftHeader 0x5A 0xA2) = .instr .kftNak ∧
    decode (.kftHeader 0x5A 0xA3) = .instr .kftAckAbort ∧ decode (.kftHeader 0x5A 0xA4) = .instr .kftCommand ∧
    decode (.kftHeader 0x5A 0xA5) = .instr .kftData ∧ decode (.kftHeader 0x5A 0xA6) = .instr .kftPing ∧
    decode (.kftHeader 0x5A 0xA7) = .instr .kftPingResponse := by decide

theorem test_decode_xmodem :
    decode (.xrHeader 0x01) = .instr .xrSoh ∧ decode (.xrHeader 0x02) = .instr .xrStx ∧
    decode (.xrHeader 0x04) = .instr .xrEot ∧ decode (.xrHeader 0x18) = .instr .xrCan ∧
    decode (.xtMode 0x43) = .instr .xtModeCrc ∧ decode (.xtMode 0x15) = .instr .xtModeChecksum ∧
    decode (.xtMode 0x18) = .instr .xtCan ∧ decode (.xtReply 0x06) = .instr .xtAck ∧
    decode (.xtReply 0x15) = .instr .xtNak ∧ decode (.xtReply 0x18) = .instr .xtCan ∧
    decode (.xtBusy 0x18) = .instr .xtCan := by decide

/-- R122, R108, R113, R275, R279, R288: what is no instruction is rejected by name. -/
theorem test_decode_rejects :
    decode (.command ⟨0x04, 0, 0, 0, []⟩) = .reject (.reservedOpcode 0x04) ∧
    decode (.command ⟨0x42, 0, 0, 0, []⟩) = .reject (.reservedOpcode 0x42) ∧
    decode (.kftHeader 0x5B 0xA1) = .reject (.notStartByte 0x5B) ∧
    decode (.kftHeader 0x5A 0x5A) = .reject .restart ∧
    decode (.kftHeader 0x5A 0xA0) = .reject (.unknownType 0xA0) ∧
    decode (.kftHeader 0x5A 0xA8) = .reject (.unknownType 0xA8) ∧
    decode (.xrHeader 0x06) = .reject (.noise 0x06) ∧ decode (.xtMode 0x06) = .reject (.ignored 0x06) ∧
    decode (.xtReply 0x43) = .reject (.ignored 0x43) ∧ decode (.xtBusy 0x15) = .reject (.ignored 0x15) := by decide

/-- Table words (R130): a 16-bit word has its first byte in bits 15..8. -/
theorem test_table_words :
    decodeTableWord 8 0x41 = some (.crcFeed 0) ∧ decodeTableWord 16 0x5AA6 = some .kftPing ∧
    decodeTableWord 8 0x04 = some .xrEot ∧ decodeTableWord 8 0x06 = some .xtAck ∧
    decodeTableWord 8 0x43 = some .xtModeCrc ∧ decodeTableWord 8 0x7F = none ∧ decodeTableWord 32 0x41 = none := by
  decide

/-- A table word placed by `withFetchWord` is what the next step runs (V-CRC-4: CRC_FEED of 00 leaves 0; R168). -/
theorem test_fetch_word :
    step (State.reset.withFetchWord 8 0x12) = exec .feAbortDataPhase State.reset ∧
    ((nx (step (State.reset.withFetchWord 16 0x5AA6))).map (·.fe.chan.txq)) =
      some [0x5A, 0xA7, 0x00, 0x02, 0x01, 0x50, 0x00, 0x00, 0xAA, 0xEA] := ⟨rfl, by decide +kernel⟩

/-! ## CRC and checksum functions -/

/-- V-CRC-1. -/
theorem test_crc_ccitt :
    crc16Ccitt 0 [0x5A, 0xA1] = 0x44BF ∧ crc16Ccitt 0 [0xFF, 0xFF] = 0x1D0F ∧ crc16Ccitt 0 [0x41] = 0x58E5 := by
  decide +kernel

/-- V-CRC-2. -/
theorem test_crc_modbus :
    crc16Modbus 0xFFFF [0x00] = 0x40BF ∧ crc16Modbus 0xFFFF [0x41] = 0x707F ∧
    crc16Modbus 0xFFFF [0x01, 0x03, 0, 0, 0, 0x01] = 0x0A84 := by decide +kernel

/-- V-CRC-3. -/
theorem test_sum8 :
    sum8 ramp = 0xC0 ∧ sum8 (List.replicate 128 0xFF) = 0x80 ∧ sum8 (0x1B :: List.replicate 127 0x1A) = 0x01 := by
  decide +kernel

/-! ## Host commands -/

/-- V-HOST-1. -/
theorem test_reg_read_reset :
    after (.regRead 0x03) State.reset (·.response) = some (some ⟨.ok, .value 0x00000120⟩) ∧
    after (.regRead 0x06) State.reset (·.response) = some (some ⟨.ok, .value 0x02000100⟩) := by decide +kernel

/-- V-HOST-2. -/
theorem test_reg_read_absent : after (.regRead 0x0B) State.reset status = some (some .invalid) := by decide +kernel

/-- V-KFT-10. -/
theorem test_reg_write_mps :
    after (.regWrite 0x00 0x00000100) State.reset (fun t => (status t, t.fe.mps)) = some (some .ok, 0x0100) ∧
    after (.regWrite 0x00 0x00010020) State.reset (fun t => (status t, t.fe.mps)) = some (some .invalid, 32) := by
  decide +kernel

/-- V-KFT-10: the value is checked before the state. -/
theorem test_reg_write_order :
    after (.regWrite 0x00 0x00000040) (fe fun f => { f with rxState := .waitType }) status = some (some .busy) ∧
    after (.regWrite 0x00 0x00001000) (fe fun f => { f with rxState := .waitType }) status = some (some .invalid) := by
  decide +kernel

/-- R322, R341: the head record, oldest first. -/
theorem test_ev_pop_head :
    after (.evPop 2) (xt fun x => (x.post (.xtReady 1)).post (.xtDone 3)) (fun t => (t.response, t.xt.chan.evq)) =
      some (some ⟨.ok, .record 0x30 (.xtReady 1)⟩, [.xtDone 3]) := by decide +kernel

/-- V-HOST-2. -/
theorem test_ev_pop_statuses :
    after (.evPop 0) State.reset status = some (some .empty) ∧
    after (.evPop 3) State.reset status = some (some .invalid) := by decide +kernel

/-- V-KFT-7. -/
theorem test_fe_send :
    after (.feSend 0xA5 2 [0x11, 0x22]) State.reset (fun t => (t.fe.chan.txq, t.fe.statusReg)) =
      some ([0x5A, 0xA5, 0x02, 0x00, 0xAF, 0x26, 0x11, 0x22], 0x00000020) := by decide +kernel

/-- V-KFT-7. -/
theorem test_fe_send_statuses :
    after (.feSend 0xA1 0 []) State.reset status = some (some .invalid) ∧
    after (.feSend 0xA4 33 (List.replicate 33 0)) State.reset status = some (some .invalid) ∧
    after (.feSend 0xA5 2 [0x11, 0x22]) (fe owing) status = some (some .busy) := by decide +kernel

/-- V-KFT-3, R185: the slot's bytes, not the buffer's rest. -/
theorem test_fe_take :
    after .feTake (fe fun f => { f with
        dlvValid := true, dlvType := 0xA5, dlvLen := 2, dlvPayload := [0x11, 0x22, 0x33] })
      (fun t => (t.response, t.fe.dlvValid)) = some (some ⟨.ok, .packet 0xA5 2 [0x11, 0x22]⟩, false) ∧
    after .feTake State.reset status = some (some .empty) := by decide +kernel

/-- V-KFT-4. -/
theorem test_fe_abort_data_phase :
    after .feAbortDataPhase State.reset (·.fe.statusReg) = some 0x00000110 := by decide +kernel

/-- V-KFT-6: bit 7 of FE_STATUS. -/
theorem test_fe_clr_ovf :
    after .feClrOvf (fe fun f => { f with chan := { f.chan with rxOverflow := true } }) (·.fe.statusReg) =
      some 0x00000100 := by decide +kernel

/-- V-XR-1. -/
theorem test_xr_start :
    after (.xrStart 1) State.reset (fun t => (t.xr.chan.txq, t.xr.statusReg)) = some ([0x43], 0x00000131) ∧
    after (.xrStart 0) State.reset (fun t => (t.xr.chan.txq, t.xr.statusReg)) = some ([0x15], 0x00000121) := by
  decide +kernel

/-- V-XR-1. -/
theorem test_xr_start_statuses :
    after (.xrStart 2) State.reset status = some (some .invalid) ∧
    after (.xrStart 0) (xr fun x => { x with state := .waitHeader }) status = some (some .busy) := by decide +kernel

/-- V-XR-13. -/
theorem test_xr_cancel :
    after .xrCancel (xr fun x => { x with state := .waitHeader })
      (fun t => (t.xr.chan.txq, t.xr.state, t.xr.chan.evq)) = some ([0x18, 0x18, 0x18], .cancelled, []) ∧
    after .xrCancel (xr fun x => { x with state := .cancelled }) status = some (some .invalid) := by decide +kernel

/-- R223. -/
theorem test_xr_clr_ovf :
    after .xrClrOvf (xr fun x => { x with chan := { x.chan with rxOverflow := true } }) (·.xr.chan.rxOverflow) =
      some false := by decide +kernel

/-- V-XT-1. -/
theorem test_xt_start :
    after .xtStart State.reset (·.xt.statusReg) = some 0x02000101 ∧
    after .xtStart (xt fun x => { x with state := .awaitAck }) status = some (some .busy) := by decide +kernel

/-- V-XT-2, P3. -/
theorem test_xt_send_frame :
    after (.xtSendFrame 3 [0x41, 0x42, 0x43]) (xt fun x => { x with state := .waitFrame, mode := .crc })
      (fun t => (t.xt.statusReg, t.xt.countReg, t.xt.buf.take 4)) =
      some (0x02000133, 0x00030000, [0x41, 0x42, 0x43, 0x1A]) := by decide +kernel

/-- V-XT-2, V-XT-1. -/
theorem test_xt_send_frame_statuses :
    after (.xtSendFrame 3 [0x41, 0x42, 0x43]) State.reset status = some (some .invalid) ∧
    after (.xtSendFrame 3 [0x41, 0x42, 0x43]) (xt fun x => { x with state := .awaitMode }) status =
      some (some .busy) ∧
    after (.xtSendFrame 129 (List.replicate 129 0)) (xt fun x => { x with state := .waitFrame }) status =
      some (some .invalid) := by decide +kernel

/-- V-XT-8. -/
theorem test_xt_over :
    after .xtOver (xt fun x => { x with state := .waitFrame }) (fun t => (t.xt.chan.txq, t.xt.state)) =
      some ([0x04], .awaitEotAck) ∧
    after .xtOver (xt fun x => { x with state := .awaitAck }) status = some (some .busy) ∧
    after .xtOver (xt fun x => { x with state := .done }) status = some (some .invalid) := by decide +kernel

/-- V-XT-10. -/
theorem test_xt_cancel :
    after .xtCancel (xt fun x => { x with state := .waitFrame }) (fun t => (t.xt.chan.txq, t.xt.state)) =
      some ([0x18, 0x18, 0x18], .cancelled) ∧
    after .xtCancel State.reset status = some (some .invalid) := by decide +kernel

/-- R273. -/
theorem test_xt_clr_ovf :
    after .xtClrOvf (xt fun x => { x with chan := { x.chan with rxOverflow := true } }) (·.xt.chan.rxOverflow) =
      some false := by decide +kernel

/-- V-CRC-4. -/
theorem test_crc_init :
    after (.crcInit 1) State.reset (·.crcu.stateReg) = some 0x0001FFFF ∧
    after (.crcInit 0) { State.reset with crcu := ⟨0x1234, .modbus⟩ } (·.crcu.stateReg) = some 0x00000000 ∧
    after (.crcInit 2) State.reset status = some (some .invalid) := by decide +kernel

/-- V-CRC-4. -/
theorem test_crc_feed :
    after (.crcFeed 0x01) State.reset (·.crcu.stateReg) = some 0x00001021 ∧
    after (.crcFeed 0x00) { State.reset with crcu := ⟨0xFFFF, .modbus⟩ } (·.crcu.stateReg) = some 0x000140BF := by
  decide +kernel

/-! ## KFT tokens -/

/-- V-KFT-8. -/
theorem test_kft_ack :
    after .kftAck (feByte .waitType 0xA1 owing) (fun t => (t.fe.chan.evq, t.fe.isBackToBackWrite)) =
      some ([.feTxOk 0xA5], false) := by decide +kernel

/-- V-KFT-2: nothing owed, nothing posted. -/
theorem test_kft_ack_unexpected :
    after .kftAck (feByte .waitType 0xA1 id) (fun t => (t.fe.chan.evq, t.fe.chan.txq, t.fe.rxState)) =
      some ([], [], .waitStart) := by decide +kernel

/-- V-KFT-8: the same bytes again, TX_RETRY 1. -/
theorem test_kft_nak_resends :
    after .kftNak (feByte .waitType 0xA2 owing) (fun t => (t.fe.chan.txq, t.fe.txRetry)) =
      some ([0x5A, 0xA5, 2, 0, 0xAF, 0x26, 0x11, 0x22], 1) := by decide +kernel

/-- V-KFT-8: the third NAK. -/
theorem test_kft_nak_exhausted :
    after .kftNak (feByte .waitType 0xA2 fun f => { owing f with txRetry := 2 })
      (fun t => (t.fe.chan.evq, t.fe.statusReg)) = some ([.feTxRetriesExhausted 0xA5], 0x00000100) := by decide +kernel

/-- R165. -/
theorem test_kft_ack_abort :
    after .kftAckAbort (feByte .waitType 0xA3 owing) (fun t => (t.fe.chan.evq, t.fe.timer)) =
      some ([.feTxAborted 0xA5], 0) := by decide +kernel

/-- R166. -/
theorem test_kft_command :
    after .kftCommand (feByte .waitType 0xA4 fun f => { f with pktLen := 7 })
      (fun t => (t.fe.rxState, t.fe.pktType, t.fe.pktLen)) = some (.lenLo, 0xA4, 0) := by decide +kernel

/-- R167. -/
theorem test_kft_data :
    after .kftData (feByte .waitType 0xA5 fun f => { f with pktCount := 7 })
      (fun t => (t.fe.rxState, t.fe.pktType, t.fe.pktCount)) = some (.lenLo, 0xA5, 0) := by decide +kernel

/-- V-KFT-2. -/
theorem test_kft_ping :
    after .kftPing (feByte .waitType 0xA6 id) (fun t => (t.fe.chan.txq, t.fe.rxState)) =
      some ([0x5A, 0xA7, 0x00, 0x02, 0x01, 0x50, 0x00, 0x00, 0xAA, 0xEA], .waitStart) := by decide +kernel

/-- V-KFT-2. -/
theorem test_kft_ping_response :
    after .kftPingResponse (feByte .waitType 0xA7 id) (fun t => (t.fe.chan.txq, t.fe.rxState)) =
      some ([], .waitStart) := by decide +kernel

/-- V-KFT-3: the last byte of `5A A5 02 00 AF 26 11 22`, and of the same with a wrong CRC. -/
theorem test_fe_last_byte :
    afterTurn (.byteStep .fe) (feByte .payload 0x22 fun f => { f with
        pktType := 0xA5, pktLen := 2, pktCount := 1, pktCrc := 0x26AF, pktBuf := [0x11, 0, 0] })
      (fun t => (t.fe.chan.txq, t.fe.statusReg)) = some ([0x5A, 0xA1], 0x00000040) ∧
    afterTurn (.byteStep .fe) (feByte .payload 0x22 fun f => { f with
        pktType := 0xA5, pktLen := 2, pktCount := 1, pktCrc := 0x27AF, pktBuf := [0x11, 0, 0] })
      (fun t => (t.fe.chan.txq, t.fe.dlvValid)) = some ([0x5A, 0xA2], false) := by decide +kernel

/-! ## XMODEM tokens -/

/-- R227. -/
theorem test_xr_soh :
    after .xrSoh (xrByte .waitHeader 0x01 fun x => { x with size1k := true, count := 5 })
      (fun t => (t.xr.state, t.xr.size1k, t.xr.count)) = some (.waitSequence, false, 0) := by decide +kernel

/-- R228. -/
theorem test_xr_stx :
    after .xrStx (xrByte .waitHeader 0x02 id) (fun t => (t.xr.state, t.xr.size1k)) =
      some (.waitSequence, true) := by decide +kernel

/-- P2: EOT after two frames. -/
theorem test_xr_eot :
    after .xrEot (xrByte .waitHeader 0x04 fun x => { x with expectedSeq := 3 })
      (fun t => (t.xr.chan.txq, t.xr.chan.evq, t.xr.state)) = some ([0x06], [.xrDone 2], .done) := by decide +kernel

/-- P5: the sender cancels. -/
theorem test_xr_can :
    after .xrCan (xrByte .waitHeader 0x18 fun x => { x with expectedSeq := 2, timer := 10 })
      (fun t => (t.xr.chan.evq, t.xr.state, t.xr.timer)) = some ([.xrCancelled 2], .cancelled, 0) := by decide +kernel

/-- V-XR-3, the last byte: sum 0xC0. -/
theorem test_xr_last_byte :
    afterTurn (.byteStep .xr) (xrByte .receiveData 0xC0 fun x => { x with rxSeq := 1, count := 128, buf := ramp })
      (fun t => (t.xr.chan.txq, t.xr.chan.evq, t.xr.expectedSeq)) =
      some ([0x06], [.xrFrame 1 128 ramp], 2) := by decide +kernel

/-- V-XT-1. -/
theorem test_xt_mode_crc :
    after .xtModeCrc (xtByte .awaitMode 0x43 id) (fun t => (t.xt.chan.evq, t.xt.statusReg)) =
      some ([.xtReady 1], 0x02000112) := by decide +kernel

/-- V-XT-1. -/
theorem test_xt_mode_checksum :
    after .xtModeChecksum (xtByte .awaitMode 0x15 id) (fun t => (t.xt.chan.evq, t.xt.statusReg)) =
      some ([.xtReady 0], 0x02000102) := by decide +kernel

/-- V-XT-4 (TXQ_EMPTY is 0 until the EOT leaves). -/
theorem test_xt_ack_short_frame :
    after .xtAck (xtByte .awaitAck 0x06 fun x => { x with mode := .crc, dataLen := 3, short := true })
      (fun t => (t.xt.chan.evq, t.xt.chan.txq, t.xt.statusReg, t.xt.total)) =
      some ([.xtAcked 1 3 1], [0x04], 0x00000239, 3) := by decide +kernel

/-- P6: ACK of the EOT. -/
theorem test_xt_ack_of_eot :
    after .xtAck (xtByte .awaitEotAck 0x06 fun x => { x with total := 0x100 })
      (fun t => (t.xt.chan.evq, t.xt.state)) = some ([.xtDone 0x100], .done) := by decide +kernel

/-- V-XT-5. -/
theorem test_xt_nak_resends :
    after .xtNak (xtByte .awaitAck 0x15 fun x => { x with mode := .crc, dataLen := 3, short := true })
      (·.xt.statusReg) = some 0x02010133 := by decide +kernel

/-- V-XT-8: NAK of the EOT. -/
theorem test_xt_nak_of_eot :
    after .xtNak (xtByte .awaitEotAck 0x15 id) (fun t => (t.xt.chan.txq, t.xt.retry)) = some ([0x04], 1) := by
  decide +kernel

/-- V-XT-1. -/
theorem test_xt_can :
    after .xtCan (xtByte .awaitMode 0x18 id) (fun t => (t.xt.chan.evq, t.xt.statusReg)) =
      some ([.xtCancelled 1], 0x0200010B) := by decide +kernel

/-- V-XT-3: the checksum of 00..7F leaves, and XT awaits the acknowledgement. -/
theorem test_xt_last_emission :
    afterTurn .emit (xt fun x => { x with state := .sendChecksum, buf := ramp }) (fun t => (t.xt.chan.txq, t.xt.state)) =
      some ([0xC0], .awaitAck) := by decide +kernel

/-! ## Witnesses: states and operands that meet the hypotheses of the statements

Clause by clause, at the boundary values of each range. The states have the smallest legal parameters: a ring of one
byte, a transmit queue of 38 bytes, an event queue of one record, an FE buffer of 32 bytes. -/

/-- The smallest legal parameters, with timers. -/
def small : Config :=
  { Config.vectors with
    rxqCap := 2, txqCap := 38, evqCap := 1, mpsMax := 32, feAckTimeout := 5, xrTimeout := 5, xtAckTimeout := 5 }

/-- Reset with the smallest parameters. -/
def base : State := State.resetWith small

/-- A channel with at most one byte waiting, `tx` bytes queued and `ev` records. -/
def chan (head : List Byte) (tx ev : Nat) : Channel :=
  { Channel.reset small with
    rxBuf := [head.headD 0, 0], writeOffset := head.length
    txq := List.replicate tx 0, evq := List.replicate ev (.xrTimeout 0) }

def bFe (f : Fe → Fe) : State := { base with fe := f base.fe }
def bXr (f : Xr → Xr) : State := { base with xr := f base.xr }
def bXt (f : Xt → Xt) : State := { base with xt := f base.xt }
/-- FE in `st` with byte `b` waiting and `tx`, `ev` entries queued. -/
def wFe (st : RxState) (b : Byte) (tx ev : Nat) : State := bFe fun f => { f with rxState := st, chan := chan [b] tx ev }
/-- The same for XR. -/
def wXr (st : XrState) (b : Byte) (tx ev : Nat) : State := bXr fun x => { x with state := st, chan := chan [b] tx ev }
/-- The same for XT. -/
def wXt (st : XtState) (b : Byte) (tx ev : Nat) : State := bXt fun x => { x with state := st, chan := chan [b] tx ev }

theorem witness_DecodeAndEncodeAgree :
    (Instr.feSend 0xA4 0 []).WellFormed ∧ (Instr.xtSendFrame 1 [0]).WellFormed ∧ Instr.xtCan.WellFormed ∧
    decode (.xtMode 0x18) = .instr .xtCan ∧ decode (.xtReply 0x18) = .instr .xtCan ∧
    decode (.xtBusy 0x18) = .instr .xtCan ∧ decode (.command ⟨0x11, 1, 2, 3, []⟩) = .instr .feTake ∧
    encode .feTake = encode .feTake := by decide

/-- The reserved ranges of R122. -/
abbrev Reserved (n : Nat) : Prop :=
  n = 0 ∨ (0x04 ≤ n ∧ n ≤ 0x0F) ∨ (0x14 ≤ n ∧ n ≤ 0x1F) ∨ (0x23 ≤ n ∧ n ≤ 0x2F) ∨ (0x35 ≤ n ∧ n ≤ 0x3F) ∨ 0x42 ≤ n

theorem witness_ReservedOpcodesAnswerInvalid :
    (∀ b ∈ [(0x00 : Byte), 0x04, 0x0F, 0x14, 0x1F, 0x23, 0x2F, 0x35, 0x3F, 0x42, 0xFF], Reserved b.toNat) ∧
    (∀ b ∈ [(0x01 : Byte), 0x03, 0x10, 0x13, 0x20, 0x22, 0x30, 0x34, 0x40, 0x41], ¬Reserved b.toNat) := by decide

theorem witness_StepRunsTheDecodedInstruction :
    (let s := { wFe .waitType 0xA6 0 0 with agenda := [.byteStep .fe] }
     s.agenda = [.byteStep .fe] ∧ fetch s (.byteStep .fe) = some (.kftHeader 0x5A 0xA6)) ∧
    decode (.kftHeader 0x5A 0xA6) = .instr .kftPing ∧ base.agenda = [] := by decide +kernel

theorem witness_CrcCcittCatchesOneWrongByte : (0x00 : Byte) ≠ 0x01 ∧ (0x7F : Byte) ≠ 0xFF := by decide

theorem witness_CrcCommandsSetAndStepTheAccumulator :
    (2 ≤ (0x02 : Byte).toNat ∧ 2 ≤ (0xFF : Byte).toNat) ∧ base.crcu.mode = .ccitt ∧
    { base with crcu := ⟨0, .modbus⟩ }.crcu.mode = .modbus := by decide +kernel

theorem witness_CrcUnitComputesTheStreamCrc : [(0x31 : Byte)] ≠ [] := by decide

theorem witness_RegReadReturnsTheRegister : 0x0B ≤ (0x0B : Byte).toNat ∧ 0x0B ≤ (0xFF : Byte).toNat := by decide

/-- With `P_MPS_MAX` = 32: 33, 0 and 0x10000 are refused, 1 and 32 taken. -/
theorem witness_RegWriteSetsTheMpsOnly :
    ((0x01 : Byte) ≠ 0 ∧ (0xFF : Byte) ≠ 0) ∧
    ((0x00010000 : Word).extractLsb' 16 16 ≠ 0 ∧ (0 : Word).extractLsb' 0 16 = 0 ∧
      base.cfg.mpsMax < ((33 : Word).extractLsb' 0 16).toNat) ∧
    ((1 : Word).extractLsb' 16 16 = 0 ∧ (1 : Word).extractLsb' 0 16 ≠ 0) ∧
    ((32 : Word).extractLsb' 16 16 = 0 ∧ (32 : Word).extractLsb' 0 16 ≠ 0 ∧
      ((32 : Word).extractLsb' 0 16).toNat ≤ base.cfg.mpsMax) ∧
    (wFe .waitType 0 0 0).fe.rxState ≠ .waitStart ∧ base.fe.rxState = .waitStart := by decide +kernel

theorem witness_EvPopRemovesTheHeadRecord :
    (3 ≤ (0x03 : Byte).toNat ∧ 3 ≤ (0xFF : Byte).toNat) ∧
    (base.fe.chan.evq = [] ∧ base.xr.chan.evq = [] ∧ base.xt.chan.evq = []) ∧
    (wFe .waitStart 0 0 1).fe.chan.evq = [.xrTimeout 0] ∧ (wXr .idle 0 0 1).xr.chan.evq = [.xrTimeout 0] ∧
    (wXt .idle 0 0 1).xt.chan.evq = [.xrTimeout 0] := by decide +kernel

/-- A command that fails: the premise on the status can be met. -/
theorem witness_CommandsAnswerAndFailuresChangeNothing :
    afterTurn (.command ⟨0x00, 0, 0, 0, []⟩) base status = some (some .invalid) := by decide +kernel

/-- A packet without payload has 6 bytes: 32 queued bytes leave room for it, 33 do not. -/
theorem witness_FeSendFramesAndQueues :
    (¬IsPacketType 0xA3 ∧ ¬IsPacketType 0xA6 ∧ base.fe.mps < (33 : Half) ∧ [(0 : Byte)].length ≠ (0 : Half).toNat) ∧
    (IsPacketType 0xA4 ∧ IsPacketType 0xA5 ∧ (0 : Half) ≤ base.fe.mps ∧ (32 : Half) ≤ base.fe.mps ∧
      ([] : List Byte).length = (0 : Half).toNat) ∧
    (bFe fun f => { f with isBackToBackWrite := true }).fe.isBackToBackWrite = true ∧
    base.fe.isBackToBackWrite = false ∧
    small.txqCap < (wFe .waitStart 0 33 0).fe.chan.txq.length + 6 ∧
    (wFe .waitStart 0 32 0).fe.chan.txq.length + 6 ≤ small.txqCap := by decide +kernel

theorem witness_FeTakeEmptiesTheSlot :
    base.fe.dlvValid = false ∧ (bFe fun f => { f with dlvValid := true }).fe.dlvValid = true := by decide +kernel

theorem witness_TicksCountDownAndExpire :
    (base.fe.timer = 0 ∧ base.xr.timer = 0 ∧ base.xt.timer = 0) ∧
    (1 < (2 : Word).toNat ∧ 1 < (0xFFFFFFFF : Word).toNat) ∧
    (bFe fun f => { f with timer := 1 }).fe.timer = 1 ∧ (bXr fun f => { f with timer := 1 }).xr.timer = 1 ∧
    (bXt fun f => { f with timer := 1 }).xt.timer = 1 ∧
    (base.fe.chan.evq.length < small.evqCap ∧ small.evqCap ≤ (wFe .waitStart 0 0 1).fe.chan.evq.length) ∧
    (3 ≤ small.txqCap - (wXt .awaitAck 0 35 0).xt.chan.txq.length ∧
      (wXt .awaitAck 0 35 0).xt.chan.evq.length < small.evqCap) ∧
    ¬(3 ≤ small.txqCap - (wXt .awaitAck 0 36 0).xt.chan.txq.length) := by decide +kernel

theorem witness_KftAckAndAckAbortEndTheExchange :
    (∀ b ∈ [(0xA1 : Byte), 0xA3], (wFe .waitType b 0 0).fe.rxState = .waitType ∧
      (wFe .waitType b 0 0).fe.chan.rxHead = some b) ∧
    (wFe .waitType 0xA1 0 0).fe.isBackToBackWrite = false ∧
    (∀ ev ∈ [0, 1], let s := wFe .waitType 0xA1 0 ev
      let t := { s with fe := { s.fe with isBackToBackWrite := true } }
      t.fe.isBackToBackWrite = true ∧ t.fe.chan.rxHead = some 0xA1 ∧ t.fe.chan.evq.length = ev) ∧
    0 < small.evqCap ∧ small.evqCap ≤ 1 := by decide +kernel

/-- The budget is 2; the copy has 8 bytes: 30 queued bytes leave room for it, 31 do not. -/
theorem witness_KftNakResendsOrGivesUp :
    (wFe .waitType 0xA2 0 0).fe.rxState = .waitType ∧ (wFe .waitType 0xA2 0 0).fe.chan.rxHead = some 0xA2 ∧
    (owing base.fe).isBackToBackWrite = true ∧ base.fe.isBackToBackWrite = false ∧
    small.feTxMaxRetries = some { owing base.fe with txRetry := 2 }.txRetry ∧
    small.feTxMaxRetries ≠ some (owing base.fe).txRetry ∧
    (chan [0xA2] 0 0).evq.length < small.evqCap ∧ small.evqCap ≤ (chan [0xA2] 0 1).evq.length ∧
    (owing base.fe).txCopy.length ≤ small.txqCap - (chan [0xA2] 30 0).txq.length ∧
    small.txqCap - (chan [0xA2] 31 0).txq.length < (owing base.fe).txCopy.length := by decide +kernel

theorem witness_KftTypeByteOpensAPacket :
    ∀ b ∈ [(0xA4 : Byte), 0xA5],
      (wFe .waitType b 0 0).fe.rxState = .waitType ∧ (wFe .waitType b 0 0).fe.chan.rxHead = some b := by
  decide +kernel

/-- 28 queued bytes leave room for ten, 29 do not. -/
theorem witness_KftPingIsAnsweredPingResponseIsNot :
    (∀ b ∈ [(0xA6 : Byte), 0xA7],
      (wFe .waitType b 0 0).fe.rxState = .waitType ∧ (wFe .waitType b 0 0).fe.chan.rxHead = some b) ∧
    10 ≤ small.txqCap - (wFe .waitType 0xA6 28 0).fe.chan.txq.length ∧
    small.txqCap - (wFe .waitType 0xA6 29 0).fe.chan.txq.length < 10 := by decide +kernel

theorem witness_FeScansAndClassifies :
    (∀ b ∈ [(0x5A : Byte), 0x59, 0xFF], (wFe .waitStart b 0 0).fe.chan.rxHead = some b ∧
      (wFe .waitStart b 0 0).fe.rxState = .waitStart) ∧
    (∀ b ∈ [(0xA0 : Byte), 0xA1, 0xA2, 0xA3, 0xA4, 0xA5, 0xA6, 0xA7, 0xA8, 0x5A],
      (wFe .waitType b 0 0).fe.chan.rxHead = some b ∧ (wFe .waitType b 0 0).fe.rxState = .waitType) ∧
    ((0xA0 : Byte) ≠ 0x5A ∧ (0xA0 : Byte).toNat < 0xA1) ∧ (0xA8 : Byte) ≠ 0x5A ∧ 0xA7 < (0xA8 : Byte).toNat := by
  decide +kernel

/-- MPS is 32: length 32 is accepted, 33 and 0x0120 (its high byte alone) are not. -/
theorem witness_FeReadsTheCountedFields :
    (∀ st ∈ [RxState.lenLo, .lenHi, .crcLo, .crcHi, .payload],
      (wFe st 0 36 0).fe.rxState = st ∧ (wFe st 0 36 0).fe.chan.rxHead = some 0) ∧
    ((32 : Half).toNat = (0x0020 : Half).toNat % 256 + 256 * (0 : Byte).toNat ∧ (32 : Half) ≤ base.fe.mps) ∧
    ((33 : Half).toNat = (0x0021 : Half).toNat % 256 + 256 * (0 : Byte).toNat ∧ base.fe.mps < (33 : Half)) ∧
    ((0x0120 : Half).toNat = (0x0020 : Half).toNat % 256 + 256 * (1 : Byte).toNat) ∧
    2 ≤ small.txqCap - (wFe .lenHi 0 36 0).fe.chan.txq.length ∧
    small.txqCap - (wFe .lenHi 0 37 0).fe.chan.txq.length < 2 ∧
    ((1 : Half) ≠ 0 ∧ (0 : Half) + 1 ≠ 2) := by decide +kernel

/-- FE with two bytes of a packet `type 02 00 .. 11 22` stored, the second being the last. -/
def lastByte (type : Byte) (crc : Half) (tx : Nat) (full abort : Bool) : State :=
  let s := wFe .payload 0x22 tx 0
  { s with fe := { s.fe with
      pktType := type, pktLen := 2, pktCount := 1, pktCrc := crc, pktBuf := 0x11 :: List.replicate 31 0
      dlvValid := full, isAckAbortNeeded := abort } }

/-- The CRC of V-KFT-3 is right for DATA and wrong for COMMAND; a packet without payload ends at its CRC. -/
theorem witness_FeValidatesInTheLastByteStep :
    (let s := lastByte 0xA5 0x26AF 36 false false
     s.fe.chan.rxHead = some 0x22 ∧ s.fe.rxState = .payload ∧ s.fe.pktCount + 1 = s.fe.pktLen ∧
     crc16Ccitt 0 ([0x5A, 0xA5, lo 2, hi 2] ++ (s.fe.pktBuf.set 1 0x22).take 2) = s.fe.pktCrc ∧
     2 ≤ small.txqCap - s.fe.chan.txq.length ∧ s.fe.dlvValid = false ∧ s.fe.isAckAbortNeeded = false) ∧
    (let s := lastByte 0xA5 0x26AF 37 true true
     small.txqCap - s.fe.chan.txq.length < 2 ∧ s.fe.dlvValid = true ∧ s.fe.isAckAbortNeeded = true) ∧
    (crc16Ccitt 0 ([0x5A, 0xA4, lo 2, hi 2] ++ [0x11, 0x22]) ≠ 0x26AF ∧ IsPacketType 0xA4) ∧
    (crc16Ccitt 0 ([0x5A, 0xA4, lo 0, hi 0] ++ []) = 0x7CCC ∧
      (0x7CCC : Half).toNat = (0x00CC : Half).toNat % 256 + 256 * (0x7C : Byte).toNat ∧
      (wFe .crcHi 0x7C 0 0).fe.chan.rxHead = some 0x7C ∧ (wFe .crcHi 0x7C 0 0).fe.pktLen = 0) := by decide +kernel

theorem witness_FeRepliesExactlyOncePerPacket :
    ∃ t, takeTurn (.byteStep .fe) (lastByte 0xA5 0x26AF 36 false false) = .next t ∧
      (lastByte 0xA5 0x26AF 36 false false).fe.rxState ≠ .waitStart ∧
      (lastByte 0xA5 0x26AF 36 false false).fe.rxState ≠ .waitType := ⟨_, rfl, by decide, by decide⟩

/-! ### The safe state of the smallest parameters -/

theorem base_chan (u : UnitId) : (Channel.reset small).Wf small u where
  ring := rfl
  read := by decide
  write := by decide
  txFits := by decide
  evFits := by decide
  records := fun _ h => nomatch h

theorem base_fe : base.fe.Inv small where
  chan := base_chan .fe
  pktBufSize := rfl
  dlvSize := rfl
  copySize := by decide
  mpsLow := by decide
  mpsHigh := by decide
  openType := fun h => absurd rfl h
  fresh := by decide
  lenLow := by decide
  lenOk := by decide
  counting := by decide
  ackDecided := rfl
  delivered := by decide
  timerOff := fun _ => rfl
  copyType := by decide
  retryOk := fun m h => by cases h; decide

theorem base_xr : base.xr.Inv small where
  chan := base_chan .xr
  bufSize := List.length_replicate
  countOk := by decide
  tcountOk := by decide
  retryOk := by decide
  timerOff := fun _ => rfl

theorem base_xt : base.xt.Inv small where
  chan := base_chan .xt
  bufSize := List.length_replicate
  sentOk := by decide
  freshMode := by decide
  sending := by decide
  lenOk := by decide
  shortOk := by decide
  padded := by intro h; cases h
  retryOk := by decide
  timerOff := fun _ => rfl

theorem base_inv : base.Inv := ⟨by decide, base_fe, base_xr, base_xt⟩

/-- `base` with `tx` bytes queued at FE. -/
theorem base_fe_tx (tx : Nat) (h : tx ≤ 38) :
    (bFe fun f => { f with chan := { f.chan with txq := List.replicate tx 0 } }).Inv :=
  ⟨base_inv.legal, { base_fe with chan := { base_chan .fe with txFits := List.length_replicate.trans_le h } }, base_xr, base_xt⟩

/-- An empty COMMAND packet and one of 32 bytes, with 36 bytes queued. -/
theorem witness_FeDeliversAWholePacket :
    let s := bFe fun f => { f with chan := { f.chan with txq := List.replicate 36 0 } }
    s.Inv ∧ s.fe.rxState = .waitStart ∧ s.fe.chan.pending s.cfg = [] ∧ s.fe.dlvValid = false ∧
    s.fe.chan.txq.length + 2 ≤ s.cfg.txqCap ∧ IsPacketType 0xA4 ∧ IsPacketType 0xA5 ∧
    s.fe.isAckAbortNeeded = false ∧ ((0 : Half).toNat = ([] : List Byte).length ∧ (0 : Half) ≤ s.fe.mps) ∧
    (32 : Half).toNat = (List.replicate 32 (0x5A : Byte)).length ∧ (32 : Half) ≤ s.fe.mps :=
  ⟨base_fe_tx 36 (by decide), by decide +kernel⟩

/-- One wrong byte: the only one, and the last of 32. -/
theorem witness_FeRefusesACorruptedPacket :
    let s := bFe fun f => { f with chan := { f.chan with txq := List.replicate 36 0 } }
    s.Inv ∧ s.fe.rxState = .waitStart ∧ s.fe.chan.pending s.cfg = [] ∧
    s.fe.chan.txq.length + 2 ≤ s.cfg.txqCap ∧ IsPacketType 0xA5 ∧ (0x11 : Byte) ≠ 0x12 ∧
    ((1 : Half).toNat = ([] : List Byte).length + 1 + ([] : List Byte).length ∧ (1 : Half) ≤ s.fe.mps) ∧
    (32 : Half).toNat = (List.replicate 31 (0 : Byte)).length + 1 + ([] : List Byte).length :=
  ⟨base_fe_tx 36 (by decide), by decide +kernel⟩

/-! ### XMODEM -/

theorem witness_StartCommandsOpenATransfer :
    (2 ≤ (0x02 : Byte).toNat ∧ (0 : Byte).toNat ≤ 1 ∧ (1 : Byte).toNat ≤ 1) ∧
    ((wXr .waitHeader 0 0 0).xr.state.active = true ∧ (wXr .receiveData 0 0 0).xr.state.active = true ∧
      base.xr.state.active = false ∧ (wXr .failed 0 0 0).xr.state.active = false) ∧
    (small.txqCap ≤ (wXr .idle 0 38 0).xr.chan.txq.length ∧ (wXr .idle 0 37 0).xr.chan.txq.length < small.txqCap) ∧
    (wXt .awaitMode 0 0 0).xt.state.active = true ∧ (wXt .awaitEotAck 0 0 0).xt.state.active = true ∧
    (wXt .done 0 0 0).xt.state.active = false := by decide +kernel

/-- 35 queued bytes leave room for three, 36 do not. -/
theorem witness_HostCancelQueuesThreeCans :
    (base.xr.state.active = false ∧ base.xt.state.active = false) ∧
    ((wXr .waitHeader 0 36 0).xr.state.active = true ∧
      small.txqCap - (wXr .waitHeader 0 36 0).xr.chan.txq.length < 3 ∧
      3 ≤ small.txqCap - (wXr .waitHeader 0 35 0).xr.chan.txq.length) ∧
    (wXt .waitFrame 0 36 0).xt.state.active = true ∧
    small.txqCap - (wXt .waitFrame 0 36 0).xt.chan.txq.length < 3 ∧
    3 ≤ small.txqCap - (wXt .waitFrame 0 35 0).xt.chan.txq.length := by decide +kernel

theorem witness_XrHeaderOpensAFrame :
    ∀ b ∈ [(0x01 : Byte), 0x02],
      (wXr .waitHeader b 0 0).xr.state = .waitHeader ∧ (wXr .waitHeader b 0 0).xr.chan.rxHead = some b := by
  decide +kernel

theorem witness_XrEotAndCanEndTheTransfer :
    (∀ b ∈ [(0x04 : Byte), 0x18], ∀ tx ∈ [37, 38], ∀ ev ∈ [0, 1],
      (wXr .waitHeader b tx ev).xr.state = .waitHeader ∧ (wXr .waitHeader b tx ev).xr.chan.rxHead = some b) ∧
    (∀ b ∈ [(0x04 : Byte), 0x06, 0x18], ∀ tx ∈ [37, 38], ∀ ev ∈ [0, 1],
      let s := wXr .waitSequenceComplement b tx ev
      s.xr.state = .waitSequenceComplement ∧ s.xr.chan.rxHead = some b ∧ b ≠ ~~~s.xr.rxSeq) ∧
    ((chan [0x04] 37 0).txq.length < small.txqCap ∧ (chan [0x04] 37 0).evq.length < small.evqCap) ∧
    small.txqCap ≤ (chan [0x04] 38 0).txq.length ∧ small.evqCap ≤ (chan [0x04] 37 1).evq.length := by decide +kernel

theorem witness_XrReadsAFrame :
    (∀ st ∈ [XrState.idle, .done, .cancelled, .failed],
      (wXr st 0 0 0).xr.chan.rxHead = some 0 ∧ (wXr st 0 0 0).xr.state.active = false ∧
        (wXr st 0 0 0).xr.timer = 0) ∧
    (∀ b ∈ [(0x00 : Byte), 0x01, 0x02, 0x03, 0x04, 0x17, 0x18, 0xFF],
      (wXr .waitHeader b 0 0).xr.chan.rxHead = some b ∧ (wXr .waitHeader b 0 0).xr.state = .waitHeader) ∧
    (wXr .waitSequence 0 0 0).xr.state = .waitSequence ∧
    ((0xFF : Byte).toNat = 255 - (0x00 : Byte).toNat ∧ (0x00 : Byte).toNat = 255 - (0xFF : Byte).toNat ∧
      (wXr .waitSequenceComplement 0xFF 0 0).xr.rxSeq = 0) ∧
    (wXr .receiveData 0 0 0).xr.state = .receiveData ∧
    (0 : BitVec 11).toNat < 128 ∧ (127 : BitVec 11).toNat < 128 ∧ (1023 : BitVec 11).toNat < 1024 ∧
    (128 : BitVec 11).toNat = 128 ∧ (1024 : BitVec 11).toNat = 1024 ∧
    (bXr fun x => { x with mode := .crc }).xr.mode = .crc ∧ base.xr.tcount = 0 := by decide +kernel

/-- XR at the last trailer byte `b` of a 128-byte frame of zeros with sequence number `seq`, where 1 is expected. -/
def lastTrailer (m : CheckMode) (b seq retry : Byte) (tx ev : Nat) : State :=
  let s := wXr .receiveData b tx ev
  { s with xr := { s.xr with
      mode := m, rxSeq := seq, retry := retry, count := 128
      tcount := match m with
        | .checksum => 0
        | .crc => 1 } }

/-- The sum and the CRC of zeros are zero (V-CRC-1, R144). -/
theorem zeros_check (n : Nat) :
    sum8 (List.replicate n 0) = 0 ∧ crc16Ccitt 0 (List.replicate n 0) = 0 := by
  induction n with
  | zero => exact ⟨rfl, rfl⟩
  | succ n ih =>
    have h : stepCcitt 0 0 = 0 := by decide
    exact ⟨ih.1, by rw [List.replicate_succ]; show crc16Ccitt (stepCcitt 0 0) _ = 0; rw [h]; exact ih.2⟩

theorem take_zeros : base.xr.buf.take 128 = List.replicate 128 0 := List.take_replicate ..

theorem witness_XrAcceptsAGoodFrame :
    (∀ m ∈ [CheckMode.checksum, .crc], ∀ tx ∈ [37, 38], ∀ ev ∈ [0, 1], let s := lastTrailer m 0 1 0 tx ev
      s.xr.chan.rxHead = some 0 ∧ s.xr.state = .receiveData ∧ s.xr.size1k = false ∧ s.xr.count.toNat = 128 ∧
      s.xr.mode = m ∧ (m = .checksum → s.xr.tcount = 0) ∧ (m = .crc → s.xr.tcount = 1) ∧
      s.xr.rxSeq = s.xr.expectedSeq ∧ s.xr.trailer0 = 0) ∧
    (0 : Byte) = sum8 (base.xr.buf.take 128) ∧
    256 * (0 : Byte).toNat + (0 : Byte).toNat = (crc16Ccitt 0 (base.xr.buf.take 128)).toNat := by
  refine ⟨by decide +kernel, ?_, ?_⟩
  · rw [take_zeros, (zeros_check 128).1]
  · rw [take_zeros, (zeros_check 128).2]; rfl

/-- The budget is 3. A wrong number with a right check value, and a wrong check value with the right number. -/
theorem witness_XrFailurePathCountsRetries :
    (∀ b ∈ [(0x00 : Byte), 0x05, 0x19], let s := wXr .waitSequenceComplement b 0 0
      s.xr.chan.rxHead = some b ∧ s.xr.state = .waitSequenceComplement ∧ b ≠ ~~~s.xr.rxSeq ∧ b ≠ 0x18 ∧ b ≠ 0x04 ∧
      b ≠ 0x06) ∧
    (∀ m ∈ [CheckMode.checksum, .crc], ∀ r ∈ [(2 : Byte), 3], ∀ tx ∈ [37, 38], ∀ ev ∈ [0, 1],
      let s := lastTrailer m 0 2 r tx ev
      s.xr.chan.rxHead = some 0 ∧ s.xr.state = .receiveData ∧ s.xr.count.toNat = 128 ∧
      s.xr.rxSeq ≠ s.xr.expectedSeq ∧ s.xr.retry = r) ∧
    (small.xrMaxRetries = 3 ∧ (2 : Byte) ≠ small.xrMaxRetries) ∧
    (1 : Byte) ≠ sum8 (base.xr.buf.take 128) ∧
    256 * (0 : Byte).toNat + (1 : Byte).toNat ≠ (crc16Ccitt 0 (base.xr.buf.take 128)).toNat := by
  refine ⟨by decide +kernel, by decide +kernel, by decide +kernel, ?_, ?_⟩
  · rw [take_zeros, (zeros_check 128).1]; decide
  · rw [take_zeros, (zeros_check 128).2]; decide

/-- XR waiting for a header in either mode, with one place left in its transmit queue. -/
def receiving (m : CheckMode) : State :=
  bXr fun x => { x with state := .waitHeader, mode := m, chan := { x.chan with txq := List.replicate 37 0 } }

theorem receiving_inv (m : CheckMode) : (receiving m).Inv :=
  ⟨base_inv.legal, base_fe, { base_xr with
    chan := { base_chan .xr with txFits := by cases m <;> decide }
    tcountOk := by cases m <;> decide
    timerOff := fun h => nomatch h }, base_xt⟩

theorem witness_XrReceivesAWholeFrame :
    ∀ m, (receiving m).Inv ∧ (receiving m).xr.state = .waitHeader ∧
      (receiving m).xr.chan.pending (receiving m).cfg = [] ∧
      (receiving m).xr.chan.txq.length < (receiving m).cfg.txqCap ∧
      (receiving m).xr.chan.evq.length < (receiving m).cfg.evqCap ∧ (receiving m).xr.mode = m ∧
      (List.replicate 128 (0 : Byte)).length = 128 ∧ (List.replicate 1024 (0 : Byte)).length = 1024 := by
  intro m
  exact ⟨receiving_inv m, rfl, by cases m <;> decide, by cases m <;> decide, by cases m <;> decide, rfl,
    List.length_replicate, List.length_replicate⟩

/-- The wrong byte first and last. -/
theorem witness_XrRefusesACorruptedFrame :
    ∀ m, (receiving m).Inv ∧ (receiving m).xr.state = .waitHeader ∧
      (receiving m).xr.chan.pending (receiving m).cfg = [] ∧
      (receiving m).xr.chan.txq.length < (receiving m).cfg.txqCap ∧
      (receiving m).xr.retry ≠ (receiving m).cfg.xrMaxRetries ∧ (0x00 : Byte) ≠ 0x80 ∧
      ([] : List Byte).length + 1 + (List.replicate 127 (0 : Byte)).length = 128 ∧
      (List.replicate 1023 (0 : Byte)).length + 1 + ([] : List Byte).length = 1024 := by
  intro m
  exact ⟨receiving_inv m, rfl, by cases m <;> decide, by cases m <;> decide, by cases m <;> decide, by decide,
    by rw [List.length_replicate]; rfl, by rw [List.length_replicate]; rfl⟩

theorem witness_XrSequenceAdvancesOncePerFrame :
    (∃ t, takeTurn (.command ⟨0x20, 1, 0, 0, []⟩) base = .next t) ∧ (∃ t, takeTurn .reset base = .next t) ∧
    (∃ t, takeTurn (.byteStep .xr) (wXr .waitHeader 0x01 0 0) = .next t) := ⟨⟨_, rfl⟩, ⟨_, rfl⟩, ⟨_, rfl⟩⟩

theorem witness_XtSendFramePadsAndArms :
    (base.xt.state.active = false ∧ (wXt .awaitMode 0 0 0).xt.state.active = true ∧
      (wXt .awaitMode 0 0 0).xt.state ≠ .waitFrame ∧ (wXt .waitFrame 0 0 0).xt.state = .waitFrame) ∧
    ((0 : Half).toNat < 1 ∧ 128 < (129 : Half).toNat ∧ 1024 < (1025 : Half).toNat ∧
      ([] : List Byte).length ≠ (1 : Half).toNat) ∧
    (∀ n ∈ [1, 127, 128], 1 ≤ (BitVec.ofNat 16 n).toNat ∧ (BitVec.ofNat 16 n).toNat ≤ 128 ∧
      (List.replicate n (0 : Byte)).length = (BitVec.ofNat 16 n).toNat) ∧
    (1024 : Half).toNat ≤ 1024 := by decide +kernel

theorem witness_XtOverSendsEot :
    (base.xt.state.active = false ∧ (wXt .awaitEotAck 0 0 0).xt.state.active = true ∧
      (wXt .awaitEotAck 0 0 0).xt.state ≠ .waitFrame ∧ (wXt .waitFrame 0 0 0).xt.state = .waitFrame) ∧
    small.txqCap ≤ (wXt .waitFrame 0 38 0).xt.chan.txq.length ∧
    (wXt .waitFrame 0 37 0).xt.chan.txq.length < small.txqCap := by decide +kernel

theorem witness_XtModeAndCanTokens :
    (∀ b ∈ [(0x43 : Byte), 0x15], ∀ ev ∈ [0, 1],
      (wXt .awaitMode b 0 ev).xt.state = .awaitMode ∧ (wXt .awaitMode b 0 ev).xt.chan.rxHead = some b) ∧
    (∀ st ∈ [XtState.awaitMode, .waitFrame, .sendHeader, .sendSequence, .sendSequenceComplement, .sendData,
        .sendChecksum, .awaitAck, .awaitEotAck],
      (wXt st 0x18 0 0).xt.state.active = true ∧ (wXt st 0x18 0 0).xt.chan.rxHead = some 0x18) ∧
    (chan [0x43] 0 0).evq.length < small.evqCap ∧ small.evqCap ≤ (chan [0x43] 0 1).evq.length := by decide +kernel

theorem witness_XtAckAdvancesTheFrame :
    (∀ tx ∈ [37, 38], ∀ ev ∈ [0, 1],
      (wXt .awaitAck 0x06 tx ev).xt.state = .awaitAck ∧ (wXt .awaitAck 0x06 tx ev).xt.chan.rxHead = some 0x06) ∧
    (base.xt.short = false ∧ (bXt fun x => { x with short := true }).xt.short = true) ∧
    ((chan [0x06] 37 0).evq.length < small.evqCap ∧ (chan [0x06] 37 0).txq.length < small.txqCap) ∧
    small.evqCap ≤ (chan [0x06] 37 1).evq.length ∧ small.txqCap ≤ (chan [0x06] 38 0).txq.length := by decide +kernel

theorem witness_XtNakResendsTheSameFrame :
    ((wXt .awaitAck 0x15 35 0).xt.state = .awaitAck ∧ (wXt .awaitAck 0x15 35 0).xt.chan.rxHead = some 0x15) ∧
    ((3 : Byte) = small.xtMaxRetries ∧ (2 : Byte) ≠ small.xtMaxRetries) ∧
    (3 ≤ small.txqCap - (chan [0x15] 35 0).txq.length ∧ (chan [0x15] 35 0).evq.length < small.evqCap) ∧
    ¬(3 ≤ small.txqCap - (chan [0x15] 36 0).txq.length) ∧ ¬((chan [0x15] 35 1).evq.length < small.evqCap) := by
  decide +kernel

theorem witness_XtEotIsAcknowledgedOrResent :
    (∀ b ∈ [(0x05 : Byte), 0x06, 0x07, 0x15, 0x18, 0xFF], ∀ tx ∈ [35, 37, 38], ∀ ev ∈ [0, 1],
      (wXt .awaitEotAck b tx ev).xt.state = .awaitEotAck ∧ (wXt .awaitEotAck b tx ev).xt.chan.rxHead = some b) ∧
    ((3 : Byte) = small.xtMaxRetries ∧ (2 : Byte) ≠ small.xtMaxRetries) ∧
    ((chan [0x15] 37 0).txq.length < small.txqCap ∧ small.txqCap ≤ (chan [0x15] 38 0).txq.length) ∧
    (3 ≤ small.txqCap - (chan [0x15] 35 0).txq.length ∧ (chan [0x15] 35 0).evq.length < small.evqCap) ∧
    ¬(3 ≤ small.txqCap - (chan [0x15] 36 0).txq.length) ∧ small.evqCap ≤ (chan [0x06] 0 1).evq.length := by
  decide +kernel

theorem witness_XtDiscardsWhatItsStateIgnores :
    (∀ st ∈ [XtState.idle, .done, .cancelled, .failed],
      (wXt st 0x18 0 0).xt.chan.rxHead = some 0x18 ∧ (wXt st 0x18 0 0).xt.state.active = false) ∧
    (∀ b ∈ [(0x14 : Byte), 0x15, 0x16, 0x18, 0x43],
      (wXt .awaitMode b 0 0).xt.chan.rxHead = some b ∧ (wXt .awaitMode b 0 0).xt.state = .awaitMode) ∧
    (∀ b ∈ [(0x17 : Byte), 0x18], (wXt .waitFrame b 0 0).xt.chan.rxHead = some b ∧
      (wXt .waitFrame b 0 0).xt.state = .waitFrame ∧ (wXt .sendChecksum b 0 0).xt.state = .sendChecksum) ∧
    (∀ b ∈ [(0x05 : Byte), 0x06, 0x15, 0x18], (wXt .awaitAck b 0 0).xt.chan.rxHead = some b ∧
      (wXt .awaitAck b 0 0).xt.state = .awaitAck) := by decide +kernel

/-- The last data byte is index 127 or 1023. -/
theorem witness_XtEmitsOneBytePerStep :
    (small.txqCap ≤ (wXt .sendHeader 0 38 0).xt.chan.txq.length ∧
      (wXt .sendHeader 0 37 0).xt.chan.txq.length < small.txqCap) ∧
    (let s := wXt .awaitAck 0 0 0
     s.xt.state ≠ .sendHeader ∧ s.xt.state ≠ .sendSequence ∧ s.xt.state ≠ .sendSequenceComplement ∧
     s.xt.state ≠ .sendData ∧ s.xt.state ≠ .sendChecksum) ∧
    (∀ st ∈ [XtState.sendHeader, .sendSequence, .sendSequenceComplement, .sendData, .sendChecksum],
      (wXt st 0 37 0).xt.state = st) ∧
    ((wXt .sendData 0 37 0).xt.buf[127]? = some 0 ∧ (wXt .sendData 0 37 0).xt.buf[126]? = some 0) ∧
    (((127 : BitVec 11) + 1).toNat = 128 ∧ ((126 : BitVec 11) + 1).toNat ≠ 128 ∧
      ((1023 : BitVec 11) + 1).toNat = 1024 ∧ ((1022 : BitVec 11) + 1).toNat ≠ 1024) ∧
    (base.xt.mode = .checksum ∧ base.xt.tidx = false) ∧
    (bXt fun x => { x with mode := .crc, tidx := true }).xt.tidx = true := by decide +kernel

/-- XT with a whole frame of zeros to send in mode `m`, and exactly the room its bytes need. -/
def sendingFrame (m : CheckMode) : State :=
  let s := State.resetWith { small with txqCap := 3 + m.frameSize + m.trailerLen }
  { s with xt := { s.xt with state := .sendHeader, mode := m, dataLen := BitVec.ofNat 11 m.frameSize } }

theorem sendingFrame_inv (m : CheckMode) : (sendingFrame m).Inv where
  legal := by cases m <;> decide
  fe := { base_fe with
    chan := { base_chan .fe with txFits := Nat.zero_le _ } }
  xr := { base_xr with chan := { base_chan .xr with txFits := Nat.zero_le _ } }
  xt :=
    { base_xt with
      chan := { base_chan .xt with txFits := Nat.zero_le _ }
      sentOk := Nat.zero_le _
      freshMode := by intro h; cases h
      sending := by intro h; cases h
      lenOk := by cases m <;> decide
      shortOk := by cases m <;> decide
      padded := by intro _ i h1 h2; cases m <;> exact absurd h2 (Nat.not_lt.mpr h1)
      timerOff := fun _ => rfl }

theorem witness_XtEmitsExactlyTheFrame :
    ∀ m, (sendingFrame m).Inv ∧ (sendingFrame m).xt.state = .sendHeader ∧ (sendingFrame m).xt.tidx = false ∧
      (sendingFrame m).xt.mode = m ∧
      (sendingFrame m).xt.chan.txq.length + (3 + m.frameSize + m.trailerLen) ≤ (sendingFrame m).cfg.txqCap ∧
      CheckMode.checksum.frameSize = 128 ∧ CheckMode.crc.frameSize = 1024 ∧ CheckMode.checksum.trailerLen = 1 ∧
      CheckMode.crc.trailerLen = 2 := by
  intro m
  exact ⟨sendingFrame_inv m, rfl, rfl, rfl, by cases m <;> decide, rfl, rfl, rfl, rfl⟩

theorem witness_XtSequenceAdvancesOncePerAck :
    (∃ t, takeTurn (.command ⟨0x30, 0, 0, 0, []⟩) base = .next t) ∧ (∃ t, takeTurn .reset base = .next t) ∧
    (∃ t, takeTurn (.byteStep .xt) (wXt .awaitAck 0x06 0 0) = .next t) := ⟨⟨_, rfl⟩, ⟨_, rfl⟩, ⟨_, rfl⟩⟩

/-! ### Channels and the whole block -/

/-- A ring of one byte, empty and full. -/
theorem witness_ReceiveRingIsAFifo :
    small.Legal ∧ (Channel.reset small).Wf small .fe ∧ (chan [0x77] 0 0).Wf small .fe ∧
    ((Channel.reset small).pending small).length < small.rxqCap - 1 ∧
    (chan [0x77] 0 0).pending small ≠ [] ∧ ((chan [0x77] 0 0).pending small).length = small.rxqCap - 1 :=
  ⟨by decide, base_chan .fe, { base_chan .fe with write := by decide }, by decide +kernel⟩

theorem witness_TransmitPopTakesTheHeadByte :
    (wFe .waitStart 0 1 0).fe.chan.txq = [0] ∧ (wXr .idle 0 1 0).xr.chan.txq = [0] ∧
    (wXt .idle 0 1 0).xt.chan.txq = [0] ∧ base.fe.chan.txq = [] ∧ base.xr.chan.txq = [] ∧
    base.xt.chan.txq = [] := by decide +kernel

/-- A held byte step and one that is taken. -/
theorem witness_ByteStepsAreAllOrNothing :
    (∃ t, takeTurn (.byteStep .fe) (wFe .waitType 0xA6 29 0) = .next t) ∧
    (∃ t, takeTurn (.byteStep .fe) (wFe .waitType 0xA6 28 0) = .next t) := ⟨⟨_, rfl⟩, ⟨_, rfl⟩⟩

theorem witness_AtMostOneEventPerStep :
    Turn.byteStep .xt ≠ .reset ∧ (∃ t, takeTurn (.byteStep .xt) (wXt .awaitMode 0x43 0 0) = .next t) ∧
    (∃ t, takeTurn (.command ⟨0x03, 2, 0, 0, []⟩) (wXt .awaitMode 0 0 1) = .next t) :=
  ⟨by decide, ⟨_, rfl⟩, ⟨_, rfl⟩⟩

/-- Two states with the same FE and different XRs, before a byte step and, with one held tick each, before a retry. -/
theorem witness_UnitsShareNoState :
    (wFe .waitType 0xA6 0 0).cfg = { wFe .waitType 0xA6 0 0 with xr := (wXr .done 0 1 1).xr }.cfg ∧
    (∃ t, takeTurn (.byteStep .fe) (wFe .waitType 0xA6 0 0) = .next t) ∧
    (∃ t, takeTurn (.byteStep .fe) { wFe .waitType 0xA6 0 0 with xr := (wXr .done 0 1 1).xr } = .next t) ∧
    Turn.byteStep .fe ≠ .retryTick .fe ∧
    (let s : State := { wFe .waitType 0xA6 0 0 with ticks := ⟨1, 0, 0⟩ }
      let s' : State := { s with xr := (wXr .done 0 1 1).xr, ticks := ⟨1, 2, 0⟩ }
      s.cfg = s'.cfg ∧ s.fe = s'.fe ∧ s.ticks.fe = s'.ticks.fe ∧
      (∃ t, takeTurn (.retryTick .fe) s = .next t) ∧ ∃ t, takeTurn (.retryTick .fe) s' = .next t) :=
  ⟨rfl, ⟨_, rfl⟩, ⟨_, rfl⟩, by decide, rfl, rfl, rfl, ⟨_, rfl⟩, ⟨_, rfl⟩⟩

/-- Both units in a terminal state, and a tick, which is no start command; a byte at XR in such a state, its timer on. -/
theorem witness_TerminalStatesLastUntilRestart :
    let s : State := { base with xr := { base.xr with state := .done }, xt := { base.xt with state := .failed } }
    s.Inv ∧ (∃ t, takeTurn (.tick .xr) s = .next t) ∧ Turn.tick .xr ≠ .reset ∧ s.xr.state = .done ∧
    s.xt.state = .failed ∧ fetch s (.tick .xr) = none ∧
    (let w := wXr .done 0x04 0 0
      let x : State := { w with xr := { w.xr with timer := 5 } }
      x.xr.chan.rxHead = some 0x04 ∧ x.xr.state.active = false ∧ x.xr.timer = 5) :=
  ⟨⟨base_inv.legal, base_fe, { base_xr with timerOff := fun _ => rfl },
      { base_xt with
        freshMode := by intro h; cases h
        sending := by intro h; cases h
        lenOk := by intro h; cases h
        shortOk := by intro h; cases h
        padded := by intro h; cases h
        timerOff := fun _ => rfl }⟩,
    ⟨_, rfl⟩, by decide, rfl, rfl, rfl, by decide +kernel⟩

/-- A timer of one tick and the longest one. -/
theorem witness_TimersExpireOnTheNthTick :
    (1 < 2 ^ 32 ∧ 4294967295 < 2 ^ 32) ∧ base.cfg.Legal ∧
    (bXr fun x => { x with timer := 1 }).xr.timer = BitVec.ofNat 32 1 ∧
    (bFe fun x => { x with timer := 0xFFFFFFFF }).fe.timer = BitVec.ofNat 32 4294967295 ∧
    (bXt fun x => { x with timer := 1 }).xt.timer = BitVec.ofNat 32 1 ∧
    base.xr.chan.evq.length < small.evqCap ∧ (wXt .awaitAck 0 35 0).xt.chan.txq.length + 3 ≤ small.txqCap := by
  decide +kernel

/-- A held tick of each unit, and a tick that is not held and leaves the pending ticks as they are. -/
theorem witness_HeldTicksAreTriedAgain :
    (let s := { wFe .waitStart 0 0 1 with fe := { (wFe .waitStart 0 0 1).fe with timer := 1 } }
     s.fe.timer = 1 ∧ small.evqCap ≤ s.fe.chan.evq.length) ∧
    small.evqCap ≤ (wXr .waitHeader 0 0 1).xr.chan.evq.length ∧
    (bXr fun x => { x with timer := 1 }).xr.timer = 1 ∧ (bXt fun x => { x with timer := 1 }).xt.timer = 1 ∧
    small.txqCap - (wXt .awaitAck 0 36 0).xt.chan.txq.length < 3 ∧
    (∃ t, takeTurn (.tick .fe) base = .next t ∧ t.ticks = base.ticks) ∧ base.ticks.get .xt = 0 := by
  refine ⟨by decide +kernel, by decide +kernel, by decide +kernel, by decide +kernel, by decide +kernel, ⟨_, rfl, rfl⟩, rfl⟩

/-- The smallest and the largest parameters are legal. -/
theorem witness_ResetIsSafe :
    small.Legal ∧
    { small with rxqCap := 65536, txqCap := 65541, evqCap := 65536, mpsMax := 65535 }.Legal := by decide

theorem witness_EveryStepKeepsTheInvariants :
    { base with agenda := [.emit] }.Inv ∧ ∃ t, step { base with agenda := [.emit] } = .next t :=
  ⟨⟨base_inv.legal, base_fe, base_xr, base_xt⟩, _, rfl⟩

/-- Two safe states that differ in a payload byte no rule has written. -/
theorem witness_UnwrittenBytesNeverMatter :
    let s' : State := bFe fun f => { f with pktBuf := 0xEE :: List.replicate 31 0 }
    base.Inv ∧ s'.Inv ∧ base.Agree s' ∧ base ≠ s' ∧ ∃ t, step base = .next t := by
  refine ⟨base_inv, ⟨base_inv.legal, { base_fe with pktBufSize := rfl }, base_xr, base_xt⟩, ⟨?_, ?_, ?_, rfl⟩, ?_, _, rfl⟩
  · exact ⟨⟨rfl, rfl, rfl, rfl, rfl, rfl⟩, rfl, fun h => (nomatch h), fun h => (nomatch h)⟩
  · exact ⟨⟨rfl, rfl, rfl, rfl, rfl, rfl⟩, rfl, fun h => (nomatch h)⟩
  · exact ⟨⟨rfl, rfl, rfl, rfl, rfl, rfl⟩, rfl, fun h => (nomatch h)⟩
  · intro h; exact absurd (congrArg (fun s => s.fe.pktBuf.head?) h) (by decide)

end Sys2Proof.Tests
end

section
/-!
The interrupt request lines as a function of the state (R345), and the numeric codes the host sees (R21, R31, R41,
R123, R341).
-/
namespace Sys2Proof.Machine

variable (s : State)

@[simp] theorem irqFe_iff : irqFe s = true ↔ s.fe.chan.evq ≠ [] ∨ s.fe.dlvValid = true := by
  rw [irqFe, Bool.or_eq_true, Bool.not_eq_true', List.isEmpty_eq_false_iff]

@[simp] theorem irqXr_iff : irqXr s = true ↔ s.xr.chan.evq ≠ [] := by
  rw [irqXr, Bool.not_eq_true', List.isEmpty_eq_false_iff]

@[simp] theorem irqXt_iff : irqXt s = true ↔ s.xt.chan.evq ≠ [] := by
  rw [irqXt, Bool.not_eq_true', List.isEmpty_eq_false_iff]

end Sys2Proof.Machine

namespace Sys2Proof.Proofs
open Sys2Proof.Machine

/-- Settles O11: each code is a row of its table, so it holds by evaluation; the lines are the lemmas above. -/
theorem codesAndInterruptLines : Obligations.CodesAndInterruptLines := by
  refine ⟨?rxStates, ?xrStates, ?xtStates, ?statuses, ?feEvents, ?xrEvents, ?xtEvents, ?lines⟩
  case rxStates => exact ⟨rfl, rfl, rfl, rfl, rfl, rfl, rfl⟩
  case xrStates => exact ⟨rfl, rfl, rfl, rfl, rfl, rfl, rfl, rfl⟩
  case xtStates => exact ⟨rfl, rfl, rfl, rfl, rfl, rfl, rfl, rfl, rfl, rfl, rfl, rfl, rfl⟩
  case statuses => exact ⟨rfl, rfl, rfl, rfl⟩
  case feEvents => exact fun _ => ⟨rfl, rfl, rfl, rfl⟩
  case xrEvents => exact fun _ _ _ => ⟨rfl, rfl, rfl, rfl, rfl⟩
  case xtEvents => exact fun _ _ _ _ _ => ⟨rfl, rfl, rfl, rfl, rfl, rfl⟩
  case lines => exact fun s => ⟨irqFe_iff s, irqXr_iff s, irqXt_iff s⟩

end Sys2Proof.Proofs
end

section
/-!
The CRC-16 functions as shift registers (R140 to R143): a message is taken byte by byte, a round that meets a zero in
the bit it tests only shifts, and so the byte that equals the half about to leave turns a byte step into a shift by
eight. The residues are two such steps.
-/
namespace Sys2Proof.Machine

/-! ## Messages -/

@[simp] theorem crc16Ccitt_nil (c : Half) : crc16Ccitt c [] = c := rfl

@[simp] theorem crc16Ccitt_cons (c : Half) (b : Byte) (s : List Byte) :
    crc16Ccitt c (b :: s) = crc16Ccitt (stepCcitt c b) s := rfl

theorem crc16Ccitt_append (c : Half) (s t : List Byte) :
    crc16Ccitt c (s ++ t) = crc16Ccitt (crc16Ccitt c s) t := List.foldl_append

@[simp] theorem crc16Modbus_nil (c : Half) : crc16Modbus c [] = c := rfl

@[simp] theorem crc16Modbus_cons (c : Half) (b : Byte) (s : List Byte) :
    crc16Modbus c (b :: s) = crc16Modbus (stepModbus c b) s := rfl

theorem crc16Modbus_append (c : Half) (s t : List Byte) :
    crc16Modbus c (s ++ t) = crc16Modbus (crc16Modbus c s) t := List.foldl_append

/-! ## Rounds that only shift -/

theorem ccittBit_of_top_clear {c : Half} (h : c.getMsbD 0 = false) : ccittBit c = c <<< 1 :=
  if_neg (by simpa [BitVec.getMsbD] using h)

theorem iter_ccittBit_of_top_clear {n : Nat} {c : Half} (h : ∀ i < n, c.getMsbD i = false) :
    iter ccittBit n c = c <<< n := by
  induction n generalizing c with
  | zero => exact (BitVec.shiftLeft_zero c).symm
  | succ n ih =>
    have rest : ∀ i < n, (c <<< 1).getMsbD i = false := fun i lt => by
      simp [BitVec.getMsbD_shiftLeft, h (i + 1) (by omega)]
    calc iter ccittBit (n + 1) c
        = iter ccittBit n (c <<< 1) := by rw [iter, ccittBit_of_top_clear (h 0 (by omega))]
      _ = c <<< (n + 1) := by rw [ih rest, ← BitVec.shiftLeft_add, Nat.add_comm]

theorem modbusBit_of_low_clear {c : Half} (h : c.getLsbD 0 = false) : modbusBit c = c >>> 1 :=
  if_neg (ne_true_of_eq_false h)

theorem iter_modbusBit_of_low_clear {n : Nat} {c : Half} (h : ∀ i < n, c.getLsbD i = false) :
    iter modbusBit n c = c >>> n := by
  induction n generalizing c with
  | zero => exact (BitVec.ushiftRight_zero c).symm
  | succ n ih =>
    have rest : ∀ i < n, (c >>> 1).getLsbD i = false := fun i lt => by
      simp [BitVec.getLsbD_ushiftRight, Nat.add_comm 1 i, h (i + 1) (by omega)]
    calc iter modbusBit (n + 1) c
        = iter modbusBit n (c >>> 1) := by rw [iter, modbusBit_of_low_clear (h 0 (by omega))]
      _ = c >>> (n + 1) := by rw [ih rest, ← BitVec.shiftRight_add, Nat.add_comm]

/-! ## The byte that leaves -/

/-- The high byte of the running value cancels itself, so the step only shifts the low byte up. -/
theorem stepCcitt_hi (c : Half) : stepCcitt c (hi c) = c <<< 8 := by
  have cleared : ∀ i < 8, (c ^^^ ((hi c).setWidth 16 <<< 8)).getMsbD i = false := fun i lt8 => by
    have notLow : ¬ 15 - i < 8 := by omega
    have inByte : 15 - i - 8 < 8 := by omega
    have sameBit : 8 + (15 - i - 8) = 15 - i := by omega
    have inWord : 15 - i < 16 := by omega
    simp [hi, BitVec.getMsbD, notLow, inByte, sameBit, inWord]
  rw [stepCcitt, iter_ccittBit_of_top_clear cleared, BitVec.shiftLeft_xor_distrib, ← BitVec.shiftLeft_add,
    BitVec.shiftLeft_eq_zero (le_refl 16), BitVec.xor_zero]

/-- The low byte of the running value cancels itself, so the step only shifts the high byte down. -/
theorem stepModbus_lo (c : Half) : stepModbus c (lo c) = c >>> 8 := by
  have cleared : ∀ i < 8, (c ^^^ (lo c).setWidth 16).getLsbD i = false := fun i lt8 => by
    have inWord : i < 16 := by omega
    simp [lo, lt8, inWord]
  rw [stepModbus, iter_modbusBit_of_low_clear cleared, BitVec.ushiftRight_xor_distrib]
  have gone : (lo c).setWidth 16 >>> 8 = 0#16 := by
    ext i
    simp [lo]
  rw [gone, BitVec.xor_zero]

theorem hi_shiftLeft_eight (c : Half) : hi (c <<< 8) = lo c := by
  ext i lt8
  have inWord : 8 + i < 16 := by omega
  simp [hi, lo, inWord, BitVec.getLsbD_eq_getElem (show i < 16 by omega)]

theorem lo_ushiftRight_eight (c : Half) : lo (c >>> 8) = hi c := by
  ext i lt8
  simp [hi, lo]

theorem crc16Ccitt_own_bytes (c : Half) : crc16Ccitt c [hi c, lo c] = 0 := by
  calc crc16Ccitt c [hi c, lo c]
      = stepCcitt (c <<< 8) (hi (c <<< 8)) := by simp [stepCcitt_hi, hi_shiftLeft_eight]
    _ = c <<< 16 := by rw [stepCcitt_hi, ← BitVec.shiftLeft_add]
    _ = 0 := BitVec.shiftLeft_eq_zero (le_refl 16)

theorem crc16Modbus_own_bytes (c : Half) : crc16Modbus c [lo c, hi c] = 0 := by
  calc crc16Modbus c [lo c, hi c]
      = stepModbus (c >>> 8) (lo (c >>> 8)) := by simp [stepModbus_lo, lo_ushiftRight_eight]
    _ = c >>> 16 := by rw [stepModbus_lo, ← BitVec.shiftRight_add]
    _ = 0 := BitVec.ushiftRight_eq_zero (le_refl 16)

/-! ## Zeros -/

theorem stepCcitt_zero_zero : stepCcitt 0 0 = 0 := stepCcitt_hi 0

theorem crc16Ccitt_zeros_append (n : Nat) (s : List Byte) :
    crc16Ccitt 0 (List.replicate n 0 ++ s) = crc16Ccitt 0 s := by
  induction n with
  | zero => rfl
  | succ n ih => rw [List.replicate_succ, List.cons_append, crc16Ccitt_cons, stepCcitt_zero_zero, ih]

end Sys2Proof.Machine
end

section
/-! The two commands of the CRC unit (R145, R146), each case of their answer said once. -/
namespace Sys2Proof.Machine

theorem crcModeOf_of_two_le {mode : Byte} (h : 2 ≤ mode.toNat) : crcModeOf mode = none := by
  have notZero : mode ≠ 0 := by rintro rfl; exact absurd h (by decide)
  have notOne : mode ≠ 1 := by rintro rfl; exact absurd h (by decide)
  rw [crcModeOf, if_neg notZero, if_neg notOne]

theorem exec_crcInit_of_mode {mode : Byte} {m : CrcMode} (h : crcModeOf mode = some m) (s : State) :
    exec (.crcInit mode) s = .next { s with crcu := ⟨m.init, m⟩, response := some ⟨.ok, .none⟩ } := by
  show execCrcInit mode s = _
  rw [execCrcInit, h]
  rfl

theorem exec_crcInit_of_no_mode {mode : Byte} (h : crcModeOf mode = none) (s : State) :
    exec (.crcInit mode) s = .next { s with response := some ⟨.invalid, .none⟩ } := by
  show execCrcInit mode s = _
  rw [execCrcInit, h]
  rfl

theorem Crcu.feed_of_ccitt {u : Crcu} (h : u.mode = .ccitt) (b : Byte) :
    u.feed b = ⟨stepCcitt u.acc b, .ccitt⟩ := by
  obtain ⟨acc, mode⟩ := u
  cases h
  rfl

theorem Crcu.feed_of_modbus {u : Crcu} (h : u.mode = .modbus) (b : Byte) :
    u.feed b = ⟨stepModbus u.acc b, .modbus⟩ := by
  obtain ⟨acc, mode⟩ := u
  cases h
  rfl

theorem exec_crcFeed (b : Byte) (s : State) :
    exec (.crcFeed b) s = .next { s with crcu := s.crcu.feed b, response := some ⟨.ok, .none⟩ } := rfl

end Sys2Proof.Machine

namespace Sys2Proof.Proofs
open Sys2Proof.Machine

/-- Settles O5: the values by evaluation; the rest by composition, the zero step and the CRC's own two bytes. -/
theorem crcCcittProperties : Obligations.CrcCcittProperties := by
  refine ⟨?empty, ?zeroByte, ?one, ?allOnes, ?check, ?leadingZeros, ?zeros, ?residue, ?composition⟩
  case empty => exact crc16Ccitt_nil 0
  case zeroByte => exact stepCcitt_zero_zero
  case one => decide +kernel
  case allOnes => decide +kernel
  case check => decide +kernel
  case leadingZeros => exact crc16Ccitt_zeros_append
  case zeros => exact fun n => by simpa using crc16Ccitt_zeros_append n []
  case residue => exact fun s => by rw [crc16Ccitt_append, crc16Ccitt_own_bytes]
  case composition => exact crc16Ccitt_append

/-- Settles O6: the values by evaluation, the residue by the CRC's own two bytes. -/
theorem crcModbusProperties : Obligations.CrcModbusProperties := by
  refine ⟨?empty, ?check, ?request, ?residue⟩
  case empty => exact crc16Modbus_nil 0xFFFF
  case check => decide +kernel
  case request => decide +kernel
  case residue => exact fun s => by rw [crc16Modbus_append, crc16Modbus_own_bytes]

/-- Settles O8, one case per mode of the operand and of the unit. -/
theorem crcCommandsSetAndStepTheAccumulator : Obligations.CrcCommandsSetAndStepTheAccumulator := by
  refine ⟨fun mode s => ⟨?initCcitt, ?initModbus, ?initInvalid⟩, fun b s => ⟨?feedCcitt, ?feedModbus⟩⟩
  case initCcitt => rintro rfl; exact exec_crcInit_of_mode (m := .ccitt) rfl s
  case initModbus => rintro rfl; exact exec_crcInit_of_mode (m := .modbus) rfl s
  case initInvalid => exact fun h => exec_crcInit_of_no_mode (crcModeOf_of_two_le h) s
  case feedCcitt => exact fun h => by rw [exec_crcFeed, Crcu.feed_of_ccitt h]
  case feedModbus => exact fun h => by rw [exec_crcFeed, Crcu.feed_of_modbus h]

end Sys2Proof.Proofs
end

section
/-! The operands of the FE rules: assembled 16-bit fields (R103), the saturating retry count (R164), and the bytes of a
framed packet (R178). -/
namespace Sys2Proof.Machine

theorem le16_toNat (low high : Byte) : (le16 low high).toNat = low.toNat + 256 * high.toNat := by
  rw [le16, BitVec.toNat_append, ← Nat.shiftLeft_add_eq_or_of_lt low.isLt, Nat.shiftLeft_eq]
  omega

theorem lo_toNat (x : Half) : (lo x).toNat = x.toNat % 256 := by simp [lo]

@[simp] theorem le16_zero (low : Byte) : le16 low 0 = low.setWidth 16 :=
  BitVec.eq_of_toNat_eq (by rw [le16_toNat, BitVec.toNat_setWidth_of_le (by decide)]; simp)

theorem eq_le16_of_toNat {v x : Half} {high : Byte} (h : v.toNat = x.toNat % 256 + 256 * high.toNat) :
    v = le16 (lo x) high :=
  BitVec.eq_of_toNat_eq (by rw [le16_toNat, lo_toNat, h])

theorem satInc_eq_min (r : Byte) : satInc r = BitVec.ofNat 8 (min (r.toNat + 1) 255) := by
  unfold satInc
  split
  case isTrue h => rw [h]; rfl
  case isFalse h =>
    have notFull : r.toNat ≠ 255 := fun e => h (BitVec.eq_of_toNat_eq e)
    rw [Nat.min_eq_left (by omega)]
    exact BitVec.eq_of_toNat_eq (by simp)

theorem framePacket_length (t : Byte) (p : List Byte) : (framePacket t p).length = 6 + p.length := by
  rw [framePacket, List.length_append]
  rfl

theorem framePacket_of_length {t : Byte} {len : Half} {p : List Byte} (h : p.length = len.toNat) :
    framePacket t p =
      [0x5A, t, lo len, hi len, lo (packetCrc t len p), hi (packetCrc t len p)] ++ p := by
  simp only [framePacket, h, BitVec.ofNat_toNat, BitVec.setWidth_eq]

end Sys2Proof.Machine
end

section
/-! The host commands of FE (R180, R185), each answer said once. -/
namespace Sys2Proof.Machine

variable {type : Byte} {len : Half} {bytes : List Byte} {s : State}

theorem exec_feSend_invalid (h : ¬IsPacketType type ∨ s.fe.mps < len ∨ bytes.length ≠ len.toNat) :
    exec (.feSend type len bytes) s = .next { s with response := some ⟨.invalid, .none⟩ } :=
  if_pos (h.imp_left not_or.mp)

/-- Past the operand checks of R180: what FE_SEND does then depends on the exchange and on the room alone. -/
theorem exec_feSend_of_valid (ht : IsPacketType type) (hm : len ≤ s.fe.mps) (hl : bytes.length = len.toNat) :
    exec (.feSend type len bytes) s =
      if s.fe.isBackToBackWrite then .next { s with response := some ⟨.busy, .none⟩ }
      else if s.fe.chan.txRoom s.cfg < (framePacket type bytes).length then
        .next { s with response := some ⟨.busy, .none⟩ }
      else .next { s with
        fe := { s.fe.txPush (framePacket type bytes) with
          txCopy := framePacket type bytes, txCopyType := type, txRetry := 0, isBackToBackWrite := true
          timer := s.cfg.feAckTimeout }
        response := some ⟨.ok, .none⟩ } := by
  have valid : ¬((type ≠ 0xA4 ∧ type ≠ 0xA5) ∨ s.fe.mps < len ∨ bytes.length ≠ len.toNat) := by
    rintro (⟨notA4, notA5⟩ | tooLong | otherLength)
    · exact ht.elim notA4 notA5
    · exact BitVec.not_lt.mpr hm tooLong
    · exact otherLength hl
  exact if_neg valid

theorem exec_feTake_empty (h : s.fe.dlvValid = false) :
    exec .feTake s = .next { s with response := some ⟨.empty, .none⟩ } :=
  if_neg (ne_true_of_eq_false h)

theorem exec_feTake_full (h : s.fe.dlvValid = true) :
    exec .feTake s = .next { s with
      fe := { s.fe with dlvValid := false }
      response := some ⟨.ok, .packet s.fe.dlvType s.fe.dlvLen (s.fe.dlvPayload.take s.fe.dlvLen.toNat)⟩ } :=
  if_pos h

end Sys2Proof.Machine

namespace Sys2Proof.Proofs
open Sys2Proof.Machine

/-- Settles O14: each command is one update and an answer, so each clause holds by evaluation. -/
theorem flagCommandsWriteOneFlag : Obligations.FlagCommandsWriteOneFlag :=
  fun _ => ⟨rfl, rfl, rfl, rfl⟩

/-- Settles O16: the operand checks, then the exchange, then the room. -/
theorem feSendFramesAndQueues : Obligations.FeSendFramesAndQueues := by
  rintro type len bytes s c p rfl hp
  refine ⟨exec_feSend_invalid, fun ht hm hl => ?_⟩
  have framed : framePacket type bytes = p := (framePacket_of_length hl).trans hp.symm
  have nonempty : 0 < p.length := by rw [← framed, framePacket_length]; omega
  have roomIff := s.fe.chan.le_txRoom_iff s.cfg nonempty
  rw [exec_feSend_of_valid ht hm hl, framed]
  refine ⟨fun owed => ?owed, fun idle full => ?full, fun idle room => ?room⟩
  case owed => rw [if_pos owed]
  case full => rw [if_neg (ne_true_of_eq_false idle), if_pos (by omega)]
  case room =>
    rw [if_neg (ne_true_of_eq_false idle), if_neg (by omega)]
    rfl

/-- Settles O17. -/
theorem feTakeEmptiesTheSlot : Obligations.FeTakeEmptiesTheSlot :=
  fun _ => ⟨exec_feTake_empty, exec_feTake_full⟩

end Sys2Proof.Proofs
end

section
/-!
The three tick steps (R184, R239, R293) are one countdown: off, running, or at its last tick, where it expires or is
held. Each unit's tick rule is tied to it by evaluation, so the cases are proved once.
-/
namespace Sys2Proof.Machine

/-- A timer's step: what a disarmed timer, a running one and one that expires with room give. -/
def countdown {α : Type} (timer : Word) (room : Prop) [Decidable room] (off running expired : α) : Option α :=
  if timer = 0 then some off else if timer ≠ 1 then some running else if room then some expired else none

section
variable {α : Type} {timer : Word} {room : Prop} [Decidable room] {off running expired : α}

theorem countdown_off (h : timer = 0) : countdown timer room off running expired = some off := if_pos h

theorem countdown_running (h : 1 < timer.toNat) : countdown timer room off running expired = some running := by
  have notOff : timer ≠ 0 := by rintro rfl; exact absurd h (by decide)
  have notLast : timer ≠ 1 := by rintro rfl; exact absurd h (by decide)
  rw [countdown, if_neg notOff, if_pos notLast]

theorem countdown_expired (h : timer = 1) (hr : room) : countdown timer room off running expired = some expired := by
  subst h
  exact if_pos hr

theorem countdown_held (h : timer = 1) (hr : ¬room) : countdown timer room off running expired = none := by
  subst h
  exact if_neg hr

theorem countdown_map {β : Type} (g : α → β) :
    (countdown timer room off running expired).map g = countdown timer room (g off) (g running) (g expired) := by
  unfold countdown
  split_ifs <;> rfl

end

theorem Fe.tick_eq_countdown (c : Config) (f : Fe) :
    f.tick c = countdown f.timer (1 ≤ f.chan.evRoom c) f { f with timer := f.timer - 1 }
      ({ f with timer := 0, isBackToBackWrite := false, txRetry := 0 }.post (.feTxTimeout f.txCopyType)) := rfl

theorem Xr.tick_eq_countdown (c : Config) (x : Xr) :
    x.tick c = countdown x.timer (1 ≤ x.chan.evRoom c) x { x with timer := x.timer - 1 }
      (x.failureEntry .failed (.xrTimeout x.expectedSeq)) := rfl

theorem Xt.tick_eq_countdown (c : Config) (x : Xt) :
    x.tick c = countdown x.timer (3 ≤ x.chan.txRoom c ∧ 1 ≤ x.chan.evRoom c) x { x with timer := x.timer - 1 }
      (x.failureEntry .failed canThree (.xtTimeout x.seq)) := rfl

theorem takeTurn_tick_of_some {s t : State} {u : UnitId} (h : tickUnit s u = some t) :
    takeTurn (.tick u) s = .next t := by
  rw [takeTurn_of_none rfl, plainTurn, tickTurn, h]

/-- A held tick changes no unit, only the count of pending ticks (R64). -/
theorem takeTurn_tick_of_held {s : State} {u : UnitId} (h : tickUnit s u = none) :
    ∃ p, takeTurn (.tick u) s = .next { s with ticks := p } :=
  ⟨_, by rw [takeTurn_of_none rfl, plainTurn, tickTurn, h]; rfl⟩

/-- The four outcomes of a tick whose unit counts down. -/
theorem takeTurn_tick_of_countdown {s running expired : State} {u : UnitId} {timer : Word} {room : Prop}
    [Decidable room] (h : tickUnit s u = countdown timer room s running expired) :
    (timer = 0 → takeTurn (.tick u) s = .next s) ∧
    (1 < timer.toNat → takeTurn (.tick u) s = .next running) ∧
    (timer = 1 → room → takeTurn (.tick u) s = .next expired) ∧
    (timer = 1 → ¬room → ∃ p, takeTurn (.tick u) s = .next { s with ticks := p }) :=
  ⟨fun off => takeTurn_tick_of_some (h.trans (countdown_off off)),
    fun more => takeTurn_tick_of_some (h.trans (countdown_running more)),
    fun last hr => takeTurn_tick_of_some (h.trans (countdown_expired last hr)),
    fun last hr => takeTurn_tick_of_held (h.trans (countdown_held last hr))⟩

end Sys2Proof.Machine

namespace Sys2Proof.Proofs
open Sys2Proof.Machine

/-- Settles O18: each unit's tick is a countdown, whose room is that of its timeout's outputs. -/
theorem ticksCountDownAndExpire : Obligations.TicksCountDownAndExpire := by
  refine ⟨fun s => ?fe, fun s => ?xr, fun s room roomIff => ?xt⟩
  case fe =>
    have evIff := s.fe.chan.one_le_evRoom_iff s.cfg
    obtain ⟨off, running, expired, held⟩ := takeTurn_tick_of_countdown (s := s) (u := .fe)
      ((congrArg (Option.map s.setFe) (s.fe.tick_eq_countdown s.cfg)).trans (countdown_map s.setFe))
    exact ⟨off, running, fun last room => expired last (evIff.mpr room), fun last full => held last (by omega)⟩
  case xr =>
    have evIff := s.xr.chan.one_le_evRoom_iff s.cfg
    obtain ⟨off, running, expired, held⟩ := takeTurn_tick_of_countdown (s := s) (u := .xr)
      ((congrArg (Option.map s.setXr) (s.xr.tick_eq_countdown s.cfg)).trans (countdown_map s.setXr))
    exact ⟨off, running, fun last room => expired last (evIff.mpr room), fun last full => held last (by omega)⟩
  case xt =>
    have outputsIff : (3 ≤ s.xt.chan.txRoom s.cfg ∧ 1 ≤ s.xt.chan.evRoom s.cfg) ↔ room := by
      rw [roomIff, s.xt.chan.one_le_evRoom_iff s.cfg, Channel.txRoom]
    obtain ⟨off, running, expired, held⟩ := takeTurn_tick_of_countdown (s := s) (u := .xt)
      ((congrArg (Option.map s.setXt) (s.xt.tick_eq_countdown s.cfg)).trans (countdown_map s.setXt))
    exact ⟨off, running, fun last fits => expired last (outputsIff.mpr fits),
      fun last full => held last (mt outputsIff.mp full)⟩

end Sys2Proof.Proofs
end

section
/-!
The KFT tokens (R163 to R169): each rule's answer, case by case, and what a token's step gives the whole block. A rule
that answers a unit gives the next state; one that is held gives the state itself (R78).
-/
namespace Sys2Proof.Machine

/-! ## A token's step -/

section
variable {s : State} {t : Byte} {rule : Config → Fe → Option Fe}

theorem next_feToken_taken {f : Fe} (hs : s.fe.rxState = .waitType) (hb : s.fe.chan.rxHead = some t)
    (hf : rule s.cfg s.fe = some f) :
    (.next (s.feToken t rule) : Host.Outcome State Fault Refusal) = .next (s.setFe (f.consume s.cfg)) := by
  rw [State.feToken_enabled rule hs hb, State.feByte_taken hb hf]

/-- A token whose rule never waits. -/
theorem next_feToken_always {g : Fe → Fe} (hs : s.fe.rxState = .waitType) (hb : s.fe.chan.rxHead = some t) :
    (.next (s.feToken t fun _ f => some (g f)) : Host.Outcome State Fault Refusal) =
      .next (s.setFe ((g s.fe).consume s.cfg)) :=
  next_feToken_taken hs hb rfl

theorem next_feToken_held (hs : s.fe.rxState = .waitType) (hb : s.fe.chan.rxHead = some t)
    (hf : rule s.cfg s.fe = none) :
    (.next (s.feToken t rule) : Host.Outcome State Fault Refusal) = .next s := by
  rw [State.feToken_enabled rule hs hb, State.feByte_held hb hf]

end

/-! ## The end of an exchange -/

section
variable {c : Config} {f : Fe}

theorem Fe.endExchange_of_room (e : Event) (h : f.chan.evq.length < c.evqCap) :
    f.endExchange c e = some ({ f with isBackToBackWrite := false, timer := 0, txRetry := 0 }.post e) :=
  if_pos ((f.chan.one_le_evRoom_iff c).mpr h)

theorem Fe.endExchange_held (e : Event) (h : c.evqCap ≤ f.chan.evq.length) : f.endExchange c e = none :=
  if_neg (mt (f.chan.one_le_evRoom_iff c).mp (Nat.not_lt.mpr h))

/-- The rule KFT_ACK and KFT_ACK_ABORT share (R163, R165): they differ in the event they post. -/
def Fe.acknowledged (outcome : Byte → Event) (c : Config) (f : Fe) : Option Fe :=
  if f.isBackToBackWrite then { f with rxState := .waitStart }.endExchange c (outcome f.txCopyType)
  else some { f with rxState := .waitStart }

theorem exec_kftAck (s : State) : exec .kftAck s = .next (s.feToken 0xA1 (Fe.acknowledged .feTxOk)) := rfl

theorem exec_kftAckAbort (s : State) :
    exec .kftAckAbort s = .next (s.feToken 0xA3 (Fe.acknowledged .feTxAborted)) := rfl

theorem Fe.acknowledged_idle {outcome : Byte → Event} (h : f.isBackToBackWrite = false) :
    f.acknowledged outcome c = some { f with rxState := .waitStart } := if_neg (ne_true_of_eq_false h)

theorem Fe.acknowledged_owed {outcome : Byte → Event} (h : f.isBackToBackWrite = true) :
    f.acknowledged outcome c = { f with rxState := .waitStart }.endExchange c (outcome f.txCopyType) := if_pos h

/-! ## KFT_NAK -/

theorem Fe.nakRule_idle (h : f.isBackToBackWrite = false) :
    f.nakRule c = some { f with rxState := .waitStart } := if_neg (ne_true_of_eq_false h)

theorem Fe.nakRule_exhausted (h : f.isBackToBackWrite = true) (spent : c.feTxMaxRetries = some f.txRetry) :
    f.nakRule c = { f with rxState := .waitStart }.endExchange c (.feTxRetriesExhausted f.txCopyType) :=
  (if_pos h).trans (if_pos spent)

theorem Fe.nakRule_resend (h : f.isBackToBackWrite = true) (left : c.feTxMaxRetries ≠ some f.txRetry)
    (room : f.txCopy.length ≤ f.chan.txRoom c) :
    f.nakRule c = some { f.txPush f.txCopy with
      rxState := .waitStart, txRetry := satInc f.txRetry, timer := c.feAckTimeout } :=
  ((if_pos h).trans (if_neg left)).trans (if_pos room)

theorem Fe.nakRule_held (h : f.isBackToBackWrite = true) (left : c.feTxMaxRetries ≠ some f.txRetry)
    (full : f.chan.txRoom c < f.txCopy.length) : f.nakRule c = none :=
  ((if_pos h).trans (if_neg left)).trans (if_neg (Nat.not_le.mpr full))

/-! ## KFT_PING -/

theorem Fe.pingRule_of_room (h : 10 ≤ f.chan.txRoom c) :
    f.pingRule c = some { f.txPush (pingResponse c) with rxState := .waitStart } := if_pos h

theorem Fe.pingRule_held (h : f.chan.txRoom c < 10) : f.pingRule c = none := if_neg (Nat.not_le.mpr h)

end

/-- The step of an acknowledging token: ignored when nothing is owed, else the exchange ends or the step is held. -/
theorem feToken_acknowledged_cases {s : State} {t : Byte} (outcome : Byte → Event) (hs : s.fe.rxState = .waitType)
    (hb : s.fe.chan.rxHead = some t) {r : Host.Outcome State Fault Refusal}
    (hr : r = .next (s.feToken t (Fe.acknowledged outcome))) :
    (s.fe.isBackToBackWrite = false → r = .next { s with
      fe := { s.fe with rxState := .waitStart, chan := s.fe.chan.consume s.cfg } }) ∧
    (s.fe.isBackToBackWrite = true → s.fe.chan.evq.length < s.cfg.evqCap → r = .next { s with
      fe := { s.fe with
        rxState := .waitStart, isBackToBackWrite := false, timer := 0, txRetry := 0
        chan := { s.fe.chan.consume s.cfg with evq := s.fe.chan.evq ++ [outcome s.fe.txCopyType] } } }) ∧
    (s.fe.isBackToBackWrite = true → s.cfg.evqCap ≤ s.fe.chan.evq.length → r = .next s) := by
  subst hr
  refine ⟨fun idle => ?idle, fun owed room => ?ends, fun owed full => ?held⟩
  case idle => exact next_feToken_taken hs hb (Fe.acknowledged_idle idle)
  case ends => exact next_feToken_taken hs hb ((Fe.acknowledged_owed owed).trans (Fe.endExchange_of_room _ room))
  case held => exact next_feToken_held hs hb ((Fe.acknowledged_owed owed).trans (Fe.endExchange_held _ full))

end Sys2Proof.Machine

namespace Sys2Proof.Proofs
open Sys2Proof.Machine

/-- Settles O19: both tokens take the rule of an acknowledging token, each with its event. -/
theorem kftAckAndAckAbortEndTheExchange : Obligations.KftAckAndAckAbortEndTheExchange :=
  ⟨fun s hs hb => feToken_acknowledged_cases .feTxOk hs hb (exec_kftAck s),
    fun s hs hb => feToken_acknowledged_cases .feTxAborted hs hb (exec_kftAckAbort s)⟩

/-- Settles O20: nothing owed, the budget spent, or a resend. -/
theorem kftNakResendsOrGivesUp : Obligations.KftNakResendsOrGivesUp := by
  intro s hs hb
  rw [← satInc_eq_min]
  refine ⟨fun idle => ?idle, fun owed spent => ⟨fun room => ?ends, fun full => ?endHeld⟩,
    fun owed left => ⟨fun room => ?resend, fun full => ?resendHeld⟩⟩
  case idle => exact next_feToken_taken hs hb (Fe.nakRule_idle idle)
  case ends => exact next_feToken_taken hs hb ((Fe.nakRule_exhausted owed spent).trans (Fe.endExchange_of_room _ room))
  case endHeld => exact next_feToken_held hs hb ((Fe.nakRule_exhausted owed spent).trans (Fe.endExchange_held _ full))
  case resend => exact next_feToken_taken hs hb (Fe.nakRule_resend owed left room)
  case resendHeld => exact next_feToken_held hs hb (Fe.nakRule_held owed left full)

/-- Settles O21. -/
theorem kftTypeByteOpensAPacket : Obligations.KftTypeByteOpensAPacket :=
  fun _ hs => ⟨next_feToken_always hs, next_feToken_always hs⟩

/-- Settles O22: the ten bytes are `pingResponse`, which the rule queues when they fit. -/
theorem kftPingIsAnsweredPingResponseIsNot : Obligations.KftPingIsAnsweredPingResponseIsNot := by
  rintro s q c hs rfl rfl
  refine ⟨fun hb room => ?answered, fun hb full => ?held, fun hb => ?discarded⟩
  case answered =>
    rw [List.append_assoc]
    exact next_feToken_taken hs hb (Fe.pingRule_of_room room)
  case held => exact next_feToken_held hs hb (Fe.pingRule_held full)
  case discarded => exact next_feToken_always hs hb

end Sys2Proof.Proofs
end

section
/-!
The FE parser (R160 to R175): what a byte does in each state of the parser, the classification of the type byte, and the
validation of a packet in the step of its last byte.
-/
namespace Sys2Proof.Machine

/-! ## A byte's step -/

section
variable {s : State} {b : Byte}

theorem fetch_dataByte (hs : s.fe.rxState ≠ .waitType) : fetch s (.byteStep .fe) = none := if_neg hs

theorem takeTurn_feByte_taken {f : Fe} (hs : s.fe.rxState ≠ .waitType) (hb : s.fe.chan.rxHead = some b)
    (hf : s.fe.dataByte s.cfg b = some f) : takeTurn (.byteStep .fe) s = .next (s.setFe (f.consume s.cfg)) := by
  rw [takeTurn_of_none (fetch_dataByte hs), plainTurn, State.feByte_taken hb hf]

theorem takeTurn_feByte_held (hs : s.fe.rxState ≠ .waitType) (hb : s.fe.chan.rxHead = some b)
    (hf : s.fe.dataByte s.cfg b = none) : takeTurn (.byteStep .fe) s = .next s := by
  rw [takeTurn_of_none (fetch_dataByte hs), plainTurn, State.feByte_held hb hf]

theorem fetch_typeByte (hs : s.fe.rxState = .waitType) (hb : s.fe.chan.rxHead = some b) :
    fetch s (.byteStep .fe) = some (.kftHeader 0x5A b) := by
  rw [fetch, if_pos hs, hb, Option.map_some]

theorem takeTurn_typeByte_instr {i : Instr} (hs : s.fe.rxState = .waitType) (hb : s.fe.chan.rxHead = some b)
    (hd : decodeKftHeader 0x5A b = .instr i) : takeTurn (.byteStep .fe) s = exec i s :=
  takeTurn_of_instr (fetch_typeByte hs hb) hd

theorem takeTurn_typeByte_reject {r : Reject} (hs : s.fe.rxState = .waitType) (hb : s.fe.chan.rxHead = some b)
    (hd : decodeKftHeader 0x5A b = .reject r) :
    takeTurn (.byteStep .fe) s = .next (s.setFe ((s.fe.otherTypeByte b).consume s.cfg)) := by
  rw [takeTurn_of_reject (fetch_typeByte hs hb) hd, defaultRule, State.feByte_taken hb rfl]

end

theorem decodeKftHeader_of_unknown {b : Byte} (notStart : b ≠ 0x5A) (outside : b.toNat < 0xA1 ∨ 0xA7 < b.toNat) :
    decodeKftHeader 0x5A b = .reject (.unknownType b) := by
  have noToken : ∀ t : Byte, 0xA1 ≤ t.toNat → t.toNat ≤ 0xA7 → b ≠ t := by
    rintro t low high rfl
    omega
  rw [decodeKftHeader, if_neg (not_not.mpr rfl), if_neg (noToken 0xA1 (by decide) (by decide)),
    if_neg (noToken 0xA2 (by decide) (by decide)), if_neg (noToken 0xA3 (by decide) (by decide)),
    if_neg (noToken 0xA4 (by decide) (by decide)), if_neg (noToken 0xA5 (by decide) (by decide)),
    if_neg (noToken 0xA6 (by decide) (by decide)), if_neg (noToken 0xA7 (by decide) (by decide)), if_neg notStart]

/-! ## The byte rules -/

section
variable {c : Config} {f : Fe} {b : Byte}

theorem Fe.otherTypeByte_start : f.otherTypeByte 0x5A = f := if_pos rfl

theorem Fe.otherTypeByte_of_ne (h : b ≠ 0x5A) : f.otherTypeByte b = { f with rxState := .waitStart } := if_neg h

theorem Fe.waitStartByte_start : f.waitStartByte 0x5A = { f with rxState := .waitType } := if_pos rfl

theorem Fe.waitStartByte_of_ne (h : b ≠ 0x5A) : f.waitStartByte b = f := if_neg h

theorem Fe.dataByte_waitStart (h : f.rxState = .waitStart) : f.dataByte c b = some (f.waitStartByte b) := by
  rw [Fe.dataByte, h]

theorem Fe.dataByte_lenLo (h : f.rxState = .lenLo) :
    f.dataByte c b = some { f with pktLen := b.setWidth 16, rxState := .lenHi } := by
  rw [Fe.dataByte, h, ← le16_zero]
  rfl

theorem Fe.dataByte_lenHi (h : f.rxState = .lenHi) : f.dataByte c b = f.lenHiByte c b := by
  rw [Fe.dataByte, h]

theorem Fe.dataByte_crcLo (h : f.rxState = .crcLo) :
    f.dataByte c b = some { f with pktCrc := b.setWidth 16, rxState := .crcHi } := by
  rw [Fe.dataByte, h, ← le16_zero]
  rfl

theorem Fe.dataByte_crcHi (h : f.rxState = .crcHi) : f.dataByte c b = f.crcHiByte c b := by
  rw [Fe.dataByte, h]

theorem Fe.dataByte_payload (h : f.rxState = .payload) : f.dataByte c b = f.payloadByte c b := by
  rw [Fe.dataByte, h]

theorem Fe.lenHiByte_accepted (h : le16 (lo f.pktLen) b ≤ f.mps) :
    f.lenHiByte c b = some { f with pktLen := le16 (lo f.pktLen) b, rxState := .crcLo } :=
  if_neg (BitVec.not_lt.mpr h)

theorem Fe.lenHiByte_too_long (h : f.mps < le16 (lo f.pktLen) b) :
    f.lenHiByte c b = { f with pktLen := le16 (lo f.pktLen) b }.nak c := if_pos h

theorem Fe.crcHiByte_of_payload (h : f.pktLen ≠ 0) :
    f.crcHiByte c b = some { f with pktCrc := le16 (lo f.pktCrc) b, rxState := .payload } := if_neg h

theorem Fe.crcHiByte_last (h : f.pktLen = 0) :
    f.crcHiByte c b = { f with pktCrc := le16 (lo f.pktCrc) b }.validate c := if_pos h

theorem Fe.payloadByte_more (h : f.pktCount + 1 ≠ f.pktLen) :
    f.payloadByte c b =
      some { f with pktBuf := f.pktBuf.set f.pktCount.toNat b, pktCount := f.pktCount + 1 } := if_neg h

theorem Fe.payloadByte_last (h : f.pktCount + 1 = f.pktLen) :
    f.payloadByte c b =
      { f with pktBuf := f.pktBuf.set f.pktCount.toNat b, pktCount := f.pktLen }.validate c := by
  calc f.payloadByte c b
      = Fe.validate c { f with pktBuf := f.pktBuf.set f.pktCount.toNat b, pktCount := f.pktCount + 1 } := if_pos h
    _ = _ := by rw [h]

/-! ## Validation and replies -/

theorem Fe.nak_of_room (h : 2 ≤ f.chan.txRoom c) :
    f.nak c = some { f.txPush [0x5A, 0xA2] with rxState := .waitStart } := if_pos h

theorem Fe.nak_held (h : f.chan.txRoom c < 2) : f.nak c = none := if_neg (Nat.not_le.mpr h)

theorem Fe.acceptCommand_of_room (h : 2 ≤ f.chan.txRoom c) (free : f.dlvValid = false) :
    f.acceptCommand c =
      some { ({ f with isAckAbortNeeded := false }.reply 0xA1).deliver 0xA4 with rxState := .waitStart } :=
  if_pos ⟨h, free⟩

theorem Fe.acceptCommand_held (h : f.chan.txRoom c < 2 ∨ f.dlvValid = true) : f.acceptCommand c = none :=
  if_neg fun ⟨room, free⟩ => h.elim (Nat.not_lt.mpr room) (ne_true_of_eq_false free)

theorem Fe.acceptData_aborted (ha : f.isAckAbortNeeded = true) (h : 2 ≤ f.chan.txRoom c) :
    f.acceptData c = some { f.reply 0xA3 with isAckAbortNeeded := false, rxState := .waitStart } :=
  (if_pos ha).trans (if_pos h)

theorem Fe.acceptData_delivered (ha : f.isAckAbortNeeded = false) (h : 2 ≤ f.chan.txRoom c)
    (free : f.dlvValid = false) :
    f.acceptData c = some { (f.reply 0xA1).deliver 0xA5 with rxState := .waitStart } :=
  (if_neg (ne_true_of_eq_false ha)).trans (if_pos ⟨h, free⟩)

theorem Fe.acceptData_held_of_full (ha : f.isAckAbortNeeded = false) (full : f.dlvValid = true) :
    f.acceptData c = none :=
  (if_neg (ne_true_of_eq_false ha)).trans (if_neg fun ⟨_, free⟩ => ne_true_of_eq_false free full)

theorem Fe.acceptData_held_of_no_room (h : f.chan.txRoom c < 2) : f.acceptData c = none := by
  cases hg : f.acceptData c with
  | none => rfl
  | some g => exact absurd (Fe.acceptData_cases hg).1 (Nat.not_le.mpr h)

/-- The CRC of the packet FE has read is the one it received (R175). -/
def Fe.CrcGood (f : Fe) : Prop := packetCrc f.pktType f.pktLen (f.pktBuf.take f.pktLen.toNat) = f.pktCrc

theorem Fe.validate_bad (h : ¬f.CrcGood) : f.validate c = f.nak c := if_pos h

theorem Fe.validate_command (h : f.CrcGood) (ht : f.pktType = 0xA4) : f.validate c = f.acceptCommand c :=
  (if_neg (not_not.mpr h)).trans (if_pos ht)

theorem Fe.validate_data (h : f.CrcGood) (ht : f.pktType = 0xA5) : f.validate c = f.acceptData c :=
  (if_neg (not_not.mpr h)).trans (if_neg (ht.trans_ne (by decide)))

theorem Fe.validate_held_of_no_room (h : f.chan.txRoom c < 2) : f.validate c = none := by
  cases hg : f.validate c with
  | none => rfl
  | some g =>
    obtain bad | ⟨_, ⟨_, command⟩ | ⟨_, data⟩⟩ := Fe.validate_cases hg
    · rw [Fe.nak_held h] at bad; cases bad
    · rw [Fe.acceptCommand_held (.inl h)] at command; cases command
    · rw [Fe.acceptData_held_of_no_room h] at data; cases data

theorem Fe.validate_held_of_full (h : f.CrcGood) (full : f.dlvValid = true) (ht : IsPacketType f.pktType)
    (hn : ¬(f.pktType = 0xA5 ∧ f.isAckAbortNeeded = true)) : f.validate c = none := by
  obtain command | data := ht
  · rw [Fe.validate_command h command, Fe.acceptCommand_held (.inr full)]
  · have notAborted : f.isAckAbortNeeded = false := Bool.eq_false_iff.mpr fun ha => hn ⟨data, ha⟩
    rw [Fe.validate_data h data, Fe.acceptData_held_of_full notAborted full]

end

end Sys2Proof.Machine

namespace Sys2Proof.Proofs
open Sys2Proof.Machine

/-- Settles O23: the start scan by the byte, the type byte by the decoder's rows. -/
theorem feScansAndClassifies : Obligations.FeScansAndClassifies := by
  intro s b hb
  refine ⟨fun hs start => ?start, fun hs other => ?noise, fun hs => ⟨?ack, ?nak, ?ackAbort, ?command, ?data, ?ping,
    ?pingResponse, fun start => ?restart, fun notStart outside => ?unknown⟩⟩
  case start =>
    subst start
    exact takeTurn_feByte_taken (by simp [hs]) hb
      ((Fe.dataByte_waitStart hs).trans (congrArg some Fe.waitStartByte_start))
  case noise =>
    exact takeTurn_feByte_taken (by simp [hs]) hb
      ((Fe.dataByte_waitStart hs).trans (congrArg some (Fe.waitStartByte_of_ne other)))
  case restart =>
    subst start
    rw [takeTurn_typeByte_reject hs hb (r := .restart) rfl, Fe.otherTypeByte_start]
    rfl
  case unknown =>
    rw [takeTurn_typeByte_reject hs hb (decodeKftHeader_of_unknown notStart outside), Fe.otherTypeByte_of_ne notStart]
    rfl
  all_goals
    rintro rfl
    exact takeTurn_typeByte_instr hs hb rfl

/-- Settles O24: the byte rule of each state; a length above MPS is answered with NAK. -/
theorem feReadsTheCountedFields : Obligations.FeReadsTheCountedFields := by
  intro s b hb
  refine ⟨fun hs => ?lenLo, fun hs L hL => ?lenHi, fun hs => ?crcLo, fun hs more c hc => ?crcHi,
    fun hs more => ?payload⟩
  case lenLo => exact takeTurn_feByte_taken (by simp [hs]) hb (Fe.dataByte_lenLo hs)
  case lenHi =>
    obtain rfl := eq_le16_of_toNat hL
    have rule := Fe.dataByte_lenHi (c := s.cfg) (b := b) hs
    have inByteState : s.fe.rxState ≠ .waitType := by simp [hs]
    refine ⟨fun fits => ?accepted, fun tooLong room => ?nak, fun tooLong full => ?held⟩
    case accepted => exact takeTurn_feByte_taken inByteState hb (rule.trans (Fe.lenHiByte_accepted fits))
    case nak =>
      exact takeTurn_feByte_taken inByteState hb
        (rule.trans ((Fe.lenHiByte_too_long tooLong).trans (Fe.nak_of_room room)))
    case held =>
      exact takeTurn_feByte_held inByteState hb
        (rule.trans ((Fe.lenHiByte_too_long tooLong).trans (Fe.nak_held full)))
  case crcLo => exact takeTurn_feByte_taken (by simp [hs]) hb (Fe.dataByte_crcLo hs)
  case crcHi =>
    obtain rfl := eq_le16_of_toNat hc
    exact takeTurn_feByte_taken (by simp [hs]) hb ((Fe.dataByte_crcHi hs).trans (Fe.crcHiByte_of_payload more))
  case payload =>
    exact takeTurn_feByte_taken (by simp [hs]) hb ((Fe.dataByte_payload hs).trans (Fe.payloadByte_more more))

/-- Settles O25: however the packet ends, its last byte's step is the validation of FE with that byte stored, on the
channel it had. -/
theorem feValidatesInTheLastByteStep : Obligations.FeValidatesInTheLastByteStep := by
  intro s b f hb stored good room ch goodIff roomEq chEq
  obtain ⟨sameChan, inByteState, last⟩ :
      f.chan = s.fe.chan ∧ s.fe.rxState ≠ .waitType ∧ s.fe.dataByte s.cfg b = f.validate s.cfg := by
    obtain ⟨hs, empty, c, hc, rfl⟩ | ⟨hs, full, rfl⟩ := stored
    · obtain rfl := eq_le16_of_toNat hc
      exact ⟨rfl, by simp [hs], (Fe.dataByte_crcHi hs).trans (Fe.crcHiByte_last empty)⟩
    · exact ⟨rfl, by simp [hs], (Fe.dataByte_payload hs).trans (Fe.payloadByte_last full)⟩
  rw [← sameChan] at roomEq chEq
  subst roomEq chEq
  have taken {g : Fe} (h : f.validate s.cfg = some g) :
      takeTurn (.byteStep .fe) s = .next (s.setFe (g.consume s.cfg)) :=
    takeTurn_feByte_taken inByteState hb (last.trans h)
  have held (h : f.validate s.cfg = none) : takeTurn (.byteStep .fe) s = .next s :=
    takeTurn_feByte_held inByteState hb (last.trans h)
  have goodCrc : good ↔ f.CrcGood := goodIff
  rw [goodCrc]
  refine ⟨fun bad room => ?nak, fun ok command room free => ?command, fun ok data aborted room => ?ackAbort,
    fun ok data notAborted room free => ?data, fun noRoom => ?noRoom, fun ok full notAborted type => ?fullSlot⟩
  case nak => exact taken ((Fe.validate_bad bad).trans (Fe.nak_of_room room))
  case command => exact taken ((Fe.validate_command ok command).trans (Fe.acceptCommand_of_room room free))
  case ackAbort => exact taken ((Fe.validate_data ok data).trans (Fe.acceptData_aborted aborted room))
  case data => exact taken ((Fe.validate_data ok data).trans (Fe.acceptData_delivered notAborted room free))
  case noRoom => exact held (Fe.validate_held_of_no_room noRoom)
  case fullSlot => exact held (Fe.validate_held_of_full ok full type notAborted)

end Sys2Proof.Proofs
end

section
/-! The host commands that open and cancel a transfer (R221, R222, R271, R272), each answer said once. -/
namespace Sys2Proof.Machine

theorem Channel.one_le_txRoom_iff (c : Config) (ch : Channel) : 1 ≤ ch.txRoom c ↔ ch.txq.length < c.txqCap :=
  ch.le_txRoom_iff c Nat.one_pos

theorem checkModeOf_of_two_le {mode : Byte} (h : 2 ≤ mode.toNat) : checkModeOf mode = none := by
  have notZero : mode ≠ 0 := by rintro rfl; exact absurd h (by decide)
  have notOne : mode ≠ 1 := by rintro rfl; exact absurd h (by decide)
  rw [checkModeOf, if_neg notZero, if_neg notOne]

theorem eq_zero_or_one_of_toNat_le {mode : Byte} (h : mode.toNat ≤ 1) : mode = 0 ∨ mode = 1 := by
  obtain zero | one := Nat.le_one_iff_eq_zero_or_eq_one.mp h
  · exact .inl (BitVec.eq_of_toNat_eq zero)
  · exact .inr (BitVec.eq_of_toNat_eq one)

/-! ## XR_START and XT_START -/

section
variable {mode : Byte} {s : State}

theorem exec_xrStart_of_no_mode (h : checkModeOf mode = none) :
    exec (.xrStart mode) s = .next { s with response := some ⟨.invalid, .none⟩ } := by
  show execXrStart mode s = _
  rw [execXrStart, h]
  rfl

/-- Past the operand check of R221: what XR_START does then depends on the state and on the room alone. -/
theorem exec_xrStart_of_legal (h : mode.toNat ≤ 1) :
    exec (.xrStart mode) s =
      if s.xr.state.active then .next { s with response := some ⟨.busy, .none⟩ }
      else if s.xr.chan.txRoom s.cfg < 1 then .next { s with response := some ⟨.busy, .none⟩ }
      else .next { s with
        xr := (s.xr.restart s.cfg (if mode = 1 then .crc else .checksum)).txPush [if mode = 1 then 0x43 else 0x15]
        response := some ⟨.ok, .none⟩ } := by
  obtain rfl | rfl := eq_zero_or_one_of_toNat_le h <;> rfl

theorem exec_xtStart_busy (h : s.xt.state.active = true) :
    exec .xtStart s = .next { s with response := some ⟨.busy, .none⟩ } := if_pos h

theorem exec_xtStart_of_idle (h : s.xt.state.active = false) :
    exec .xtStart s = .next { s with xt := s.xt.restart, response := some ⟨.ok, .none⟩ } :=
  if_neg (ne_true_of_eq_false h)

/-! ## XR_CANCEL and XT_CANCEL -/

theorem exec_xrCancel_invalid (h : s.xr.state.active = false) :
    exec .xrCancel s = .next { s with response := some ⟨.invalid, .none⟩ } := if_pos h

theorem exec_xrCancel_busy (h : s.xr.state.active = true) (full : s.xr.chan.txRoom s.cfg < 3) :
    exec .xrCancel s = .next { s with response := some ⟨.busy, .none⟩ } :=
  (if_neg (ne_false_of_eq_true h)).trans (if_pos full)

theorem exec_xrCancel_of_room (h : s.xr.state.active = true) (room : 3 ≤ s.xr.chan.txRoom s.cfg) :
    exec .xrCancel s = .next { s with
      xr := { s.xr.txPush canThree with state := .cancelled, timer := 0 }, response := some ⟨.ok, .none⟩ } :=
  (if_neg (ne_false_of_eq_true h)).trans (if_neg (Nat.not_lt.mpr room))

theorem exec_xtCancel_invalid (h : s.xt.state.active = false) :
    exec .xtCancel s = .next { s with response := some ⟨.invalid, .none⟩ } := if_pos h

theorem exec_xtCancel_busy (h : s.xt.state.active = true) (full : s.xt.chan.txRoom s.cfg < 3) :
    exec .xtCancel s = .next { s with response := some ⟨.busy, .none⟩ } :=
  (if_neg (ne_false_of_eq_true h)).trans (if_pos full)

theorem exec_xtCancel_of_room (h : s.xt.state.active = true) (room : 3 ≤ s.xt.chan.txRoom s.cfg) :
    exec .xtCancel s = .next { s with
      xt := { s.xt.txPush canThree with state := .cancelled, timer := 0 }, response := some ⟨.ok, .none⟩ } :=
  (if_neg (ne_false_of_eq_true h)).trans (if_neg (Nat.not_lt.mpr room))

end

end Sys2Proof.Machine

namespace Sys2Proof.Proofs
open Sys2Proof.Machine

/-- Settles O29: the operand check, then the state check, then the room; XT_START has the state check only. -/
theorem startCommandsOpenATransfer : Obligations.StartCommandsOpenATransfer := by
  refine ⟨fun mode s => ⟨fun bad => ?badMode, fun legal active => ?active, fun legal idle full => ?full,
    fun legal idle room => ?started⟩, fun s => ⟨exec_xtStart_busy, exec_xtStart_of_idle⟩⟩
  case badMode => exact exec_xrStart_of_no_mode (checkModeOf_of_two_le bad)
  case active => rw [exec_xrStart_of_legal legal, if_pos active]
  case full =>
    have noRoom : s.xr.chan.txRoom s.cfg < 1 :=
      Nat.not_le.mp (mt (s.xr.chan.one_le_txRoom_iff s.cfg).mp (Nat.not_lt.mpr full))
    rw [exec_xrStart_of_legal legal, if_neg (ne_true_of_eq_false idle), if_pos noRoom]
  case started =>
    have fits : ¬s.xr.chan.txRoom s.cfg < 1 := Nat.not_lt.mpr ((s.xr.chan.one_le_txRoom_iff s.cfg).mpr room)
    rw [exec_xrStart_of_legal legal, if_neg (ne_true_of_eq_false idle), if_neg fits]
    rfl

/-- Settles O30. -/
theorem hostCancelQueuesThreeCans : Obligations.HostCancelQueuesThreeCans :=
  fun _ => ⟨exec_xrCancel_invalid, exec_xrCancel_busy, exec_xrCancel_of_room,
    exec_xtCancel_invalid, exec_xtCancel_busy, exec_xtCancel_of_room⟩

end Sys2Proof.Proofs
end

section
/-!
A byte step of XR (R220 to R226): which rule reads the byte. Each kind of step is one `State.xrByte`, so what a rule's
answer gives the whole block is said once, for the header tokens and the data bytes alike.
-/
namespace Sys2Proof.Machine

section
variable {s : State} {b : Byte}

/-! ## Which rule reads the byte -/

theorem takeTurn_xrDataByte (hs : s.xr.state ≠ .waitHeader) :
    takeTurn (.byteStep .xr) s = .next (s.xrByte Xr.dataByte) := takeTurn_of_none (if_neg hs)

theorem fetch_xrHeader (hs : s.xr.state = .waitHeader) (hb : s.xr.chan.rxHead = some b) :
    fetch s (.byteStep .xr) = some (.xrHeader b) := by
  rw [fetch, if_pos hs, hb, Option.map_some]

theorem takeTurn_xrHeader_instr {i : Instr} (hs : s.xr.state = .waitHeader) (hb : s.xr.chan.rxHead = some b)
    (hd : decodeXrHeader b = .instr i) : takeTurn (.byteStep .xr) s = exec i s :=
  takeTurn_of_instr (fetch_xrHeader hs hb) hd

theorem takeTurn_xrHeader_reject {r : Reject} (hs : s.xr.state = .waitHeader) (hb : s.xr.chan.rxHead = some b)
    (hd : decodeXrHeader b = .reject r) :
    takeTurn (.byteStep .xr) s = .next (s.xrByte fun _ x _ => some x) :=
  takeTurn_of_reject (fetch_xrHeader hs hb) hd

theorem decodeXrHeader_of_noise (notSoh : b ≠ 0x01) (notStx : b ≠ 0x02) (notEot : b ≠ 0x04) (notCan : b ≠ 0x18) :
    decodeXrHeader b = .reject (.noise b) := by
  rw [decodeXrHeader, if_neg notSoh, if_neg notStx, if_neg notEot, if_neg notCan]

theorem exec_xrSoh (hs : s.xr.state = .waitHeader) (hb : s.xr.chan.rxHead = some 0x01) :
    exec .xrSoh s = .next (s.xrByte fun _ x _ => some (x.openFrame false)) :=
  congrArg _ (State.xrToken_enabled _ hs hb)

theorem exec_xrStx (hs : s.xr.state = .waitHeader) (hb : s.xr.chan.rxHead = some 0x02) :
    exec .xrStx s = .next (s.xrByte fun _ x _ => some (x.openFrame true)) :=
  congrArg _ (State.xrToken_enabled _ hs hb)

theorem exec_xrEot (hs : s.xr.state = .waitHeader) (hb : s.xr.chan.rxHead = some 0x04) :
    exec .xrEot s = .next (s.xrByte fun c x _ => x.eotRule c) := congrArg _ (State.xrToken_enabled _ hs hb)

theorem exec_xrCan (hs : s.xr.state = .waitHeader) (hb : s.xr.chan.rxHead = some 0x18) :
    exec .xrCan s = .next (s.xrByte fun c x _ => x.canRule c) := congrArg _ (State.xrToken_enabled _ hs hb)

end

/-! ## What the rule's answer gives -/

section
variable {s : State} {b : Byte} {rule : Config → Xr → Byte → Option Xr} {r : Host.Outcome State Fault Refusal} {x : Xr}

/-- A rule that leaves XR in an active state: the timer is reloaded (R224). -/
theorem xrByte_stays (hr : r = .next (s.xrByte rule)) (hb : s.xr.chan.rxHead = some b)
    (hx : rule s.cfg s.xr b = some x) (ha : x.state.active = true) :
    r = .next { s with xr := { x with timer := s.cfg.xrTimeout, chan := x.chan.consume s.cfg } } := by
  rw [hr, State.xrByte_taken hb hx, Xr.settle_active ha]
  rfl

/-- A rule that ends the transfer: the timer is disarmed (R224). -/
theorem xrByte_ends (hr : r = .next (s.xrByte rule)) (hb : s.xr.chan.rxHead = some b)
    (hx : rule s.cfg s.xr b = some x) (ha : x.state.active = false) :
    r = .next { s with xr := { x with timer := 0, chan := x.chan.consume s.cfg } } := by
  rw [hr, State.xrByte_taken hb hx, Xr.settle_inactive ha]
  rfl

theorem xrByte_held (hr : r = .next (s.xrByte rule)) (hb : s.xr.chan.rxHead = some b)
    (hx : rule s.cfg s.xr b = none) : r = .next s := by
  rw [hr, State.xrByte_held hb hx]

end

/-! ## Room for the outputs -/

section
variable {c : Config} {ch : Channel}

theorem Channel.txRoom_and_evRoom (tx : ch.txq.length < c.txqCap) (ev : ch.evq.length < c.evqCap) :
    1 ≤ ch.txRoom c ∧ 1 ≤ ch.evRoom c :=
  ⟨(ch.one_le_txRoom_iff c).mpr tx, (ch.one_le_evRoom_iff c).mpr ev⟩

theorem Channel.not_txRoom (h : c.txqCap ≤ ch.txq.length) : ¬1 ≤ ch.txRoom c :=
  mt (ch.one_le_txRoom_iff c).mp (Nat.not_lt.mpr h)

theorem Channel.not_evRoom (h : c.evqCap ≤ ch.evq.length) : ¬1 ≤ ch.evRoom c :=
  mt (ch.one_le_evRoom_iff c).mp (Nat.not_lt.mpr h)

theorem Channel.not_txRoom_and_evRoom (h : c.txqCap ≤ ch.txq.length ∨ c.evqCap ≤ ch.evq.length) :
    ¬(1 ≤ ch.txRoom c ∧ 1 ≤ ch.evRoom c) :=
  fun ⟨tx, ev⟩ => h.elim (Channel.not_txRoom · tx) (Channel.not_evRoom · ev)

end

/-! ## EOT and CAN, in either state that reads them -/

section
variable {s : State} {b : Byte} {rule : Config → Xr → Byte → Option Xr} {r : Host.Outcome State Fault Refusal}

/-- A step whose rule is EOT's ends the transfer or is held. -/
theorem xrByte_eot (hr : r = .next (s.xrByte rule)) (hb : s.xr.chan.rxHead = some b)
    (eot : rule s.cfg s.xr b = s.xr.eotRule s.cfg) :
    (s.xr.chan.txq.length < s.cfg.txqCap → s.xr.chan.evq.length < s.cfg.evqCap → r = .next { s with
      xr := { s.xr with
        state := .done, timer := 0
        chan := { s.xr.chan.consume s.cfg with
          txq := s.xr.chan.txq ++ [0x06], evq := s.xr.chan.evq ++ [.xrDone (s.xr.expectedSeq - 1)] } } }) ∧
    (s.cfg.txqCap ≤ s.xr.chan.txq.length ∨ s.cfg.evqCap ≤ s.xr.chan.evq.length → r = .next s) :=
  ⟨fun tx ev => xrByte_ends hr hb (eot.trans (if_pos (Channel.txRoom_and_evRoom tx ev))) rfl,
    fun full => xrByte_held hr hb (eot.trans (if_neg (Channel.not_txRoom_and_evRoom full)))⟩

/-- A step whose rule is CAN's ends the transfer or is held. -/
theorem xrByte_can (hr : r = .next (s.xrByte rule)) (hb : s.xr.chan.rxHead = some b)
    (can : rule s.cfg s.xr b = s.xr.canRule s.cfg) :
    (s.xr.chan.evq.length < s.cfg.evqCap → r = .next { s with
      xr := { s.xr with
        state := .cancelled, timer := 0
        chan := { s.xr.chan.consume s.cfg with
          evq := s.xr.chan.evq ++ [.xrCancelled s.xr.expectedSeq] } } }) ∧
    (s.cfg.evqCap ≤ s.xr.chan.evq.length → r = .next s) :=
  ⟨fun ev => xrByte_ends hr hb (can.trans (if_pos ((s.xr.chan.one_le_evRoom_iff s.cfg).mpr ev))) rfl,
    fun full => xrByte_held hr hb (can.trans (if_neg (Channel.not_evRoom full)))⟩

end

end Sys2Proof.Machine
end

section
/-!
The XR data bytes (R231 to R238): the rule of each state, the trailer, and the two ends of validation, acceptance and the
failure path.
-/
namespace Sys2Proof.Machine

section
variable {c : Config} {x : Xr} {b : Byte}

/-! ## The rule of each state -/

theorem Xr.dataByte_inactive (h : x.state.active = false) : x.dataByte c b = some x := by
  unfold Xr.dataByte
  cases hs : x.state
  case idle => rfl
  case done => rfl
  case cancelled => rfl
  case failed => rfl
  all_goals rw [hs] at h; cases h

theorem Xr.dataByte_waitSequence (h : x.state = .waitSequence) : x.dataByte c b = some (x.sequenceByte b) := by
  rw [Xr.dataByte, h]

theorem Xr.dataByte_waitComplement (h : x.state = .waitSequenceComplement) :
    x.dataByte c b = x.complementByte c b := by
  rw [Xr.dataByte, h]

theorem Xr.dataByte_receiveData (h : x.state = .receiveData) : x.dataByte c b = x.receiveByte c b := by
  rw [Xr.dataByte, h]

/-! ## The complement byte -/

theorem eq_complement_of_toNat {v : Byte} (h : b.toNat = 255 - v.toNat) : b = ~~~v :=
  BitVec.eq_of_toNat_eq (by rw [BitVec.toNat_not, h])

theorem Xr.complementByte_match (h : b = ~~~x.rxSeq) :
    x.complementByte c b = some { x with count := 0, tcount := 0, state := .receiveData } := if_pos h

theorem Xr.complementByte_mismatch (h : b ≠ ~~~x.rxSeq) : x.complementByte c b = x.errorByte c b := if_neg h

theorem Xr.errorByte_can : x.errorByte c 0x18 = x.canRule c := rfl

theorem Xr.errorByte_eot : x.errorByte c 0x04 = x.eotRule c := rfl

theorem Xr.errorByte_ack : x.errorByte c 0x06 = some { x with state := .waitHeader } := rfl

theorem Xr.errorByte_other (notCan : b ≠ 0x18) (notEot : b ≠ 0x04) (notAck : b ≠ 0x06) :
    x.errorByte c b = x.failurePath c := by
  rw [Xr.errorByte, if_neg notCan, if_neg notEot, if_neg notAck]

/-! ## Data and trailer -/

theorem Xr.receiveByte_data (more : x.count.toNat < x.frameSize) :
    x.receiveByte c b = some { x with buf := x.buf.set x.count.toNat b, count := x.count + 1 } := if_pos more

theorem Xr.receiveByte_trailer (full : x.count.toNat = x.frameSize) :
    x.receiveByte c b =
      if (x.tcount + 1).toNat = x.mode.trailerLen then { x.storeTrailer b with tcount := x.tcount + 1 }.validate c
      else some { x.storeTrailer b with tcount := x.tcount + 1 } := by
  have sameMode : (x.storeTrailer b).mode = x.mode := by unfold Xr.storeTrailer; split <;> rfl
  rw [Xr.receiveByte, if_neg (Nat.not_lt.mpr full.ge)]
  simp only [sameMode]

theorem Xr.storeTrailer_first (h : x.tcount = 0) : x.storeTrailer b = { x with trailer0 := b } := if_pos h

theorem Xr.storeTrailer_second (h : x.tcount = 1) : x.storeTrailer b = { x with trailer1 := b } :=
  if_neg (h.trans_ne (by decide))

theorem Xr.receiveByte_first_of_two (full : x.count.toNat = x.frameSize) (hm : x.mode = .crc) (ht : x.tcount = 0) :
    x.receiveByte c b = some { x with trailer0 := b, tcount := 1 } := by
  rw [Xr.receiveByte_trailer full, Xr.storeTrailer_first ht, hm, ht]
  rfl

/-- The only trailer byte of CHECKSUM mode; validation clears both counts, so it does not matter what they were. -/
theorem Xr.receiveByte_last_checksum (full : x.count.toNat = x.frameSize) (hm : x.mode = .checksum)
    (ht : x.tcount = 0) : x.receiveByte c b = { x with trailer0 := b }.validate c := by
  rw [Xr.receiveByte_trailer full, Xr.storeTrailer_first ht, hm, ht]
  rfl

/-- The second trailer byte of CRC mode. -/
theorem Xr.receiveByte_last_crc (full : x.count.toNat = x.frameSize) (hm : x.mode = .crc) (ht : x.tcount = 1) :
    x.receiveByte c b = { x with trailer1 := b }.validate c := by
  rw [Xr.receiveByte_trailer full, Xr.storeTrailer_second ht, hm, ht]
  rfl

/-! ## Validation -/

theorem be16_toNat (first second : Byte) : (be16 first second).toNat = 256 * first.toNat + second.toNat :=
  (le16_toNat second first).trans (Nat.add_comm _ _)

theorem Xr.checkOk_last_checksum (hm : x.mode = .checksum) :
    { x with trailer0 := b }.checkOk = true ↔ b = sum8 (x.buf.take x.frameSize) := by
  simp only [Xr.checkOk, hm]
  exact beq_iff_eq

theorem Xr.checkOk_last_crc (hm : x.mode = .crc) :
    { x with trailer1 := b }.checkOk = true ↔
      256 * x.trailer0.toNat + b.toNat = (crc16Ccitt 0 (x.buf.take x.frameSize)).toNat := by
  rw [← be16_toNat, BitVec.toNat_inj]
  simp only [Xr.checkOk, hm]
  exact beq_iff_eq

theorem Xr.validate_good (seq : x.rxSeq = x.expectedSeq) (ok : x.checkOk = true) :
    x.validate c = { x with count := 0, tcount := 0 }.accept c := if_pos ⟨seq, ok⟩

theorem Xr.validate_bad (h : x.rxSeq ≠ x.expectedSeq ∨ ¬x.checkOk = true) :
    x.validate c = { x with count := 0, tcount := 0 }.failurePath c := if_neg fun ⟨seq, ok⟩ => h.elim (· seq) (· ok)

/-! ## The failure path -/

theorem Xr.failurePath_spent (spent : x.retry = c.xrMaxRetries) (ev : x.chan.evq.length < c.evqCap) :
    x.failurePath c = some (x.failureEntry .failed (.xrBadMessage x.expectedSeq)) :=
  (if_pos spent).trans (if_pos ((x.chan.one_le_evRoom_iff c).mpr ev))

theorem Xr.failurePath_spent_held (spent : x.retry = c.xrMaxRetries) (full : c.evqCap ≤ x.chan.evq.length) :
    x.failurePath c = none := (if_pos spent).trans (if_neg (Channel.not_evRoom full))

theorem Xr.failurePath_retry (left : x.retry ≠ c.xrMaxRetries) (tx : x.chan.txq.length < c.txqCap) :
    x.failurePath c = some { x.txPush [x.retryByte] with retry := x.retry + 1, state := .waitHeader } :=
  (if_neg left).trans (if_pos ((x.chan.one_le_txRoom_iff c).mpr tx))

theorem Xr.failurePath_retry_held (left : x.retry ≠ c.xrMaxRetries) (full : c.txqCap ≤ x.chan.txq.length) :
    x.failurePath c = none := (if_neg left).trans (if_neg (Channel.not_txRoom full))

end

/-! ## The steps that end a frame -/

section
variable {s : State} {b : Byte} {y : Xr}

theorem takeTurn_xrAccept (hs : s.xr.state ≠ .waitHeader) (hb : s.xr.chan.rxHead = some b)
    (rule : s.xr.dataByte s.cfg b = y.accept s.cfg) :
    (y.chan.txq.length < s.cfg.txqCap → y.chan.evq.length < s.cfg.evqCap →
      takeTurn (.byteStep .xr) s = .next { s with
        xr := { y with
          expectedSeq := y.expectedSeq + 1, retry := 0, first := false
          state := .waitHeader, timer := s.cfg.xrTimeout
          chan := { y.chan.consume s.cfg with
            txq := y.chan.txq ++ [0x06]
            evq := y.chan.evq ++ [.xrFrame y.rxSeq (BitVec.ofNat 16 y.frameSize) (y.buf.take y.frameSize)] } } }) ∧
    (s.cfg.txqCap ≤ y.chan.txq.length ∨ s.cfg.evqCap ≤ y.chan.evq.length →
      takeTurn (.byteStep .xr) s = .next s) :=
  ⟨fun tx ev => xrByte_stays (takeTurn_xrDataByte hs) hb
      (rule.trans (if_pos (Channel.txRoom_and_evRoom tx ev))) rfl,
    fun full => xrByte_held (takeTurn_xrDataByte hs) hb
      (rule.trans (if_neg (Channel.not_txRoom_and_evRoom full)))⟩

theorem takeTurn_xrFailurePath (hs : s.xr.state ≠ .waitHeader) (hb : s.xr.chan.rxHead = some b)
    (rule : s.xr.dataByte s.cfg b = y.failurePath s.cfg) :
    (y.retry = s.cfg.xrMaxRetries → y.chan.evq.length < s.cfg.evqCap →
      takeTurn (.byteStep .xr) s = .next { s with
        xr := { y with
          state := .failed, timer := 0
          chan := { y.chan.consume s.cfg with evq := y.chan.evq ++ [.xrBadMessage y.expectedSeq] } } }) ∧
    (y.retry = s.cfg.xrMaxRetries → s.cfg.evqCap ≤ y.chan.evq.length →
      takeTurn (.byteStep .xr) s = .next s) ∧
    (y.retry ≠ s.cfg.xrMaxRetries → y.chan.txq.length < s.cfg.txqCap →
      takeTurn (.byteStep .xr) s = .next { s with
        xr := { y with
          retry := y.retry + 1, state := .waitHeader, timer := s.cfg.xrTimeout
          chan := { y.chan.consume s.cfg with txq := y.chan.txq ++ [y.retryByte] } } }) ∧
    (y.retry ≠ s.cfg.xrMaxRetries → s.cfg.txqCap ≤ y.chan.txq.length →
      takeTurn (.byteStep .xr) s = .next s) := by
  have step := takeTurn_xrDataByte hs
  refine ⟨fun spent ev => ?failed, fun spent full => ?failedHeld, fun left tx => ?retry, fun left full => ?retryHeld⟩
  case failed => exact xrByte_ends step hb (rule.trans (Xr.failurePath_spent spent ev)) rfl
  case failedHeld => exact xrByte_held step hb (rule.trans (Xr.failurePath_spent_held spent full))
  case retry => exact xrByte_stays step hb (rule.trans (Xr.failurePath_retry left tx)) rfl
  case retryHeld => exact xrByte_held step hb (rule.trans (Xr.failurePath_retry_held left full))

end

end Sys2Proof.Machine

namespace Sys2Proof.Proofs
open Sys2Proof.Machine

/-- Settles O31. -/
theorem xrHeaderOpensAFrame : Obligations.XrHeaderOpensAFrame :=
  fun _ hs => ⟨fun hb => xrByte_stays (exec_xrSoh hs hb) hb rfl rfl,
    fun hb => xrByte_stays (exec_xrStx hs hb) hb rfl rfl⟩

/-- Settles O32: as a mismatched complement byte, EOT and CAN run the rule they have as headers. -/
theorem xrEotAndCanEndTheTransfer : Obligations.XrEotAndCanEndTheTransfer := by
  refine ⟨fun s hs hb => xrByte_eot (exec_xrEot hs hb) hb rfl, fun s hs hb => xrByte_can (exec_xrCan hs hb) hb rfl,
    fun s b hb hs mismatch => ?complement⟩
  case complement =>
    have step := takeTurn_xrDataByte (s := s) (by simp [hs])
    have rule : s.xr.dataByte s.cfg b = s.xr.errorByte s.cfg b :=
      (Xr.dataByte_waitComplement hs).trans (Xr.complementByte_mismatch mismatch)
    have can (h : b = 0x18) := xrByte_can step hb (rule.trans (by rw [h, Xr.errorByte_can]))
    have eot (h : b = 0x04) := xrByte_eot step hb (rule.trans (by rw [h, Xr.errorByte_eot]))
    refine ⟨fun h => (can h).1, fun h => (can h).2, fun h => (eot h).1, fun h => (eot h).2, fun ack => ?ack⟩
    case ack => exact xrByte_stays step hb (rule.trans (by rw [ack, Xr.errorByte_ack])) rfl

/-- Settles O33: one case per state of XR, and in WAIT_HEADER one per row of the decoder. -/
theorem xrReadsAFrame : Obligations.XrReadsAFrame := by
  intro s b hb
  refine ⟨fun inactive off => ?inactive, fun hs => ⟨?soh, ?stx, ?eot, ?can, fun notSoh notStx notEot notCan => ?noise⟩,
    fun hs => ?sequence, fun hs complement => ?complement, fun hs more => ?data, fun hs full hm ht => ?trailer⟩
  case inactive =>
    have notHeader : s.xr.state ≠ .waitHeader := by
      intro hs
      rw [hs] at inactive
      cases inactive
    rw [xrByte_ends (takeTurn_xrDataByte notHeader) hb (Xr.dataByte_inactive inactive) inactive, ← off]
  case noise =>
    exact xrByte_stays (takeTurn_xrHeader_reject hs hb (decodeXrHeader_of_noise notSoh notStx notEot notCan)) hb rfl
      (by rw [hs]; rfl)
  case sequence =>
    exact xrByte_stays (takeTurn_xrDataByte (by simp [hs])) hb (Xr.dataByte_waitSequence hs) rfl
  case complement =>
    exact xrByte_stays (takeTurn_xrDataByte (by simp [hs])) hb ((Xr.dataByte_waitComplement hs).trans
      (Xr.complementByte_match (eq_complement_of_toNat complement))) rfl
  case data =>
    exact xrByte_stays (takeTurn_xrDataByte (by simp [hs])) hb ((Xr.dataByte_receiveData hs).trans
      (Xr.receiveByte_data more)) (by rw [hs]; rfl)
  case trailer =>
    exact xrByte_stays (takeTurn_xrDataByte (by simp [hs])) hb ((Xr.dataByte_receiveData hs).trans
      (Xr.receiveByte_first_of_two full hm ht)) (by rw [hs]; rfl)
  all_goals
    rintro rfl
    exact takeTurn_xrHeader_instr hs hb rfl

/-- Settles O34: in either mode the last trailer byte's step is the validation of XR with that byte stored. -/
theorem xrAcceptsAGoodFrame : Obligations.XrAcceptsAGoodFrame := by
  rintro s b N y hb hs rfl full trailer seq
  have inByteState : s.xr.state ≠ .waitHeader := by simp [hs]
  obtain ⟨hm, ht, rfl, good⟩ | ⟨hm, ht, rfl, good⟩ := trailer
  · exact takeTurn_xrAccept inByteState hb (((Xr.dataByte_receiveData hs).trans
      (Xr.receiveByte_last_checksum full hm ht)).trans (Xr.validate_good seq ((Xr.checkOk_last_checksum hm).mpr good)))
  · exact takeTurn_xrAccept inByteState hb (((Xr.dataByte_receiveData hs).trans
      (Xr.receiveByte_last_crc full hm ht)).trans (Xr.validate_good seq ((Xr.checkOk_last_crc hm).mpr good)))

/-- Settles O35: each of the three causes makes the byte's rule the failure path. -/
theorem xrFailurePathCountsRetries : Obligations.XrFailurePathCountsRetries := by
  rintro s b N y hb rfl
    (⟨hs, mismatch, notCan, notEot, notAck, rfl⟩ | ⟨hs, full, hm, ht, bad, rfl⟩ | ⟨hs, full, hm, ht, bad, rfl⟩)
  · exact takeTurn_xrFailurePath (by simp [hs]) hb (((Xr.dataByte_waitComplement hs).trans
      (Xr.complementByte_mismatch mismatch)).trans (Xr.errorByte_other notCan notEot notAck))
  · exact takeTurn_xrFailurePath (by simp [hs]) hb (((Xr.dataByte_receiveData hs).trans
      (Xr.receiveByte_last_checksum full hm ht)).trans
      (Xr.validate_bad (bad.imp_right (mt (Xr.checkOk_last_checksum hm).mp))))
  · exact takeTurn_xrFailurePath (by simp [hs]) hb (((Xr.dataByte_receiveData hs).trans
      (Xr.receiveByte_last_crc full hm ht)).trans
      (Xr.validate_bad (bad.imp_right (mt (Xr.checkOk_last_crc hm).mp))))

end Sys2Proof.Proofs
end

section
/-! The host commands XT_SEND_FRAME and XT_OVER (R280, R291), each answer said once. -/
namespace Sys2Proof.Machine

theorem CheckMode.ite_eq_frameSize (m : CheckMode) : (if m = .crc then 1024 else 128) = m.frameSize := by
  cases m <;> rfl

theorem XtState.not_inactive_of_waitFrame {st : XtState} (h : st = .waitFrame) : ¬st.active = false := by
  rw [h]
  decide

section
variable {s : State} {n : Half} {bytes : List Byte}

/-! ## XT_SEND_FRAME -/

theorem exec_xtSendFrame_inactive (h : s.xt.state.active = false) :
    exec (.xtSendFrame n bytes) s = .next { s with response := some ⟨.invalid, .none⟩ } := if_pos h

theorem exec_xtSendFrame_busy (h : s.xt.state.active = true) (hs : s.xt.state ≠ .waitFrame) :
    exec (.xtSendFrame n bytes) s = .next { s with response := some ⟨.busy, .none⟩ } :=
  (if_neg (ne_false_of_eq_true h)).trans (if_pos hs)

/-- Past the state checks of R280: what XT_SEND_FRAME does then depends on its operands alone. -/
theorem exec_xtSendFrame_of_waitFrame (hs : s.xt.state = .waitFrame) :
    exec (.xtSendFrame n bytes) s =
      if n.toNat < 1 ∨ s.xt.mode.frameSize < n.toNat ∨ bytes.length ≠ n.toNat then
        .next { s with response := some ⟨.invalid, .none⟩ }
      else .next { s with
        xt := { s.xt with
          buf := s.xt.loadBuf bytes, dataLen := n.setWidth 11, short := decide (n.toNat < s.xt.mode.frameSize)
          sent := 0, tidx := false, retry := 0, state := .sendHeader }
        response := some ⟨.ok, .none⟩ } :=
  (if_neg (XtState.not_inactive_of_waitFrame hs)).trans (if_neg (not_not.mpr hs))

/-! ## XT_OVER -/

theorem exec_xtOver_inactive (h : s.xt.state.active = false) :
    exec .xtOver s = .next { s with response := some ⟨.invalid, .none⟩ } := if_pos h

theorem exec_xtOver_busy (h : s.xt.state.active = true) (hs : s.xt.state ≠ .waitFrame) :
    exec .xtOver s = .next { s with response := some ⟨.busy, .none⟩ } :=
  (if_neg (ne_false_of_eq_true h)).trans (if_pos hs)

/-- Past the state checks of R291: what XT_OVER does then depends on the room alone. -/
theorem exec_xtOver_of_waitFrame (hs : s.xt.state = .waitFrame) :
    exec .xtOver s =
      if s.xt.chan.txRoom s.cfg < 1 then .next { s with response := some ⟨.busy, .none⟩ }
      else .next { s with
        xt := { s.xt.txPush [0x04] with retry := 0, state := .awaitEotAck, timer := s.cfg.xtAckTimeout }
        response := some ⟨.ok, .none⟩ } :=
  (if_neg (XtState.not_inactive_of_waitFrame hs)).trans (if_neg (not_not.mpr hs))

end

end Sys2Proof.Machine

namespace Sys2Proof.Proofs
open Sys2Proof.Machine

/-- Settles O39: the checks of R280 in their order, then the loaded frame. -/
theorem xtSendFramePadsAndArms : Obligations.XtSendFramePadsAndArms := by
  intro n bytes s FS size
  obtain rfl : FS = s.xt.mode.frameSize := size.trans s.xt.mode.ite_eq_frameSize
  refine ⟨exec_xtSendFrame_inactive, exec_xtSendFrame_busy, fun hs bad => ?badLength,
    fun hs atLeastOne fits len => ?loaded⟩
  case badLength => rw [exec_xtSendFrame_of_waitFrame hs, if_pos bad]
  case loaded =>
    have good : ¬(n.toNat < 1 ∨ s.xt.mode.frameSize < n.toNat ∨ bytes.length ≠ n.toNat) := by omega
    rw [exec_xtSendFrame_of_waitFrame hs, if_neg good, Xt.loadBuf, len, BitVec.ofNat_toNat]

/-- Settles O40: the checks of R291 in their order, then EOT. -/
theorem xtOverSendsEot : Obligations.XtOverSendsEot := by
  refine fun s => ⟨exec_xtOver_inactive, exec_xtOver_busy, fun hs full => ?full, fun hs tx => ?sent⟩
  case full =>
    rw [exec_xtOver_of_waitFrame hs, if_pos (Nat.not_le.mp (Channel.not_txRoom full))]
  case sent =>
    rw [exec_xtOver_of_waitFrame hs, if_neg (Nat.not_lt.mpr ((s.xt.chan.one_le_txRoom_iff s.cfg).mpr tx))]
    rfl

end Sys2Proof.Proofs
end

section
/-!
A byte step of XT (R270 to R279, R287, R288): in which space its state reads the byte, and what the rule's answer gives
the whole block.
-/
namespace Sys2Proof.Machine

/-! ## Which space the state reads -/

section
variable {st : XtState} {b : Byte}

theorem xtSpace_inactive (h : st.active = false) : xtSpace st b = none := by
  cases st
  case idle | done | cancelled | failed => rfl
  all_goals cases h

theorem xtSpace_awaiting (h : st.awaiting = true) : xtSpace st b = some (.xtReply b) := by
  cases st
  case awaitAck | awaitEotAck => rfl
  all_goals cases h

/-- CAN is a token in every space an active state reads (R278). -/
theorem xtSpace_can (active : st.active = true) :
    ∃ e, xtSpace st 0x18 = some e ∧ decode e = .instr .xtCan := by
  cases st
  case idle | done | cancelled | failed => cases active
  all_goals exact ⟨_, rfl, rfl⟩

theorem XtState.not_awaiting_of_inactive (h : st.active = false) : st.awaiting = false := by
  cases st
  case awaitAck | awaitEotAck => cases h
  all_goals rfl

theorem decodeXtMode_ignored (notC : b ≠ 0x43) (notNak : b ≠ 0x15) (notCan : b ≠ 0x18) :
    decodeXtMode b = .reject (.ignored b) := by
  rw [decodeXtMode, if_neg notC, if_neg notNak, if_neg notCan]

theorem decodeXtReply_ignored (notAck : b ≠ 0x06) (notNak : b ≠ 0x15) (notCan : b ≠ 0x18) :
    decodeXtReply b = .reject (.ignored b) := by
  rw [decodeXtReply, if_neg notAck, if_neg notNak, if_neg notCan]

theorem decodeXtBusy_ignored (notCan : b ≠ 0x18) : decodeXtBusy b = .reject (.ignored b) := if_neg notCan

end

/-! ## Which rule reads the byte -/

section
variable {s : State} {b : Byte}

theorem fetch_xtByte (hb : s.xt.chan.rxHead = some b) : fetch s (.byteStep .xt) = xtSpace s.xt.state b := by
  rw [fetch, hb, Option.bind_some]

theorem takeTurn_xt_instr {e : Encoding} {i : Instr} (hb : s.xt.chan.rxHead = some b)
    (space : xtSpace s.xt.state b = some e) (hd : decode e = .instr i) : takeTurn (.byteStep .xt) s = exec i s :=
  takeTurn_of_instr ((fetch_xtByte hb).trans space) hd

theorem takeTurn_xtCan (active : s.xt.state.active = true) (hb : s.xt.chan.rxHead = some 0x18) :
    takeTurn (.byteStep .xt) s = exec .xtCan s := by
  obtain ⟨e, space, token⟩ := xtSpace_can active
  exact takeTurn_xt_instr hb space token

theorem takeTurn_xt_reject {e : Encoding} {r : Reject} (hb : s.xt.chan.rxHead = some b)
    (space : xtSpace s.xt.state b = some e) (hd : decode e = .reject r) :
    takeTurn (.byteStep .xt) s = .next (s.xtByte fun c x _ => some (x.discardByte c)) :=
  takeTurn_of_reject ((fetch_xtByte hb).trans space) hd

theorem takeTurn_xt_inactive (hb : s.xt.chan.rxHead = some b) (h : s.xt.state.active = false) :
    takeTurn (.byteStep .xt) s = .next (s.xtByte fun c x _ => some (x.discardByte c)) :=
  takeTurn_of_none ((fetch_xtByte hb).trans (xtSpace_inactive h))

theorem exec_xtModeCrc (hs : s.xt.state = .awaitMode) (hb : s.xt.chan.rxHead = some 0x43) :
    exec .xtModeCrc s = .next (s.xtByte fun c x _ => x.selectMode .crc c) :=
  congrArg _ (State.xtToken_enabled _ (by rw [hs]; rfl) hb)

theorem exec_xtModeChecksum (hs : s.xt.state = .awaitMode) (hb : s.xt.chan.rxHead = some 0x15) :
    exec .xtModeChecksum s = .next (s.xtByte fun c x _ => x.selectMode .checksum c) :=
  congrArg _ (State.xtToken_enabled _ (by rw [hs]; rfl) hb)

theorem exec_xtAck (hs : s.xt.state.awaiting = true) (hb : s.xt.chan.rxHead = some 0x06) :
    exec .xtAck s = .next (s.xtByte fun c x _ => x.ackRule c) := congrArg _ (State.xtToken_enabled _ hs hb)

theorem exec_xtNak (hs : s.xt.state.awaiting = true) (hb : s.xt.chan.rxHead = some 0x15) :
    exec .xtNak s = .next (s.xtByte fun c x _ => x.nakRule c) := congrArg _ (State.xtToken_enabled _ hs hb)

theorem exec_xtCan (hs : s.xt.state.active = true) (hb : s.xt.chan.rxHead = some 0x18) :
    exec .xtCan s = .next (s.xtByte fun c x _ => x.canRule c) := congrArg _ (State.xtToken_enabled _ hs hb)

end

/-! ## What the rule's answer gives -/

section
variable {s : State} {b : Byte} {rule : Config → Xt → Byte → Option Xt} {r : Host.Outcome State Fault Refusal} {x : Xt}

theorem xtByte_taken (hr : r = .next (s.xtByte rule)) (hb : s.xt.chan.rxHead = some b)
    (hx : rule s.cfg s.xt b = some x) :
    r = .next { s with xt := { x with chan := x.chan.consume s.cfg } } := by
  rw [hr, State.xtByte_taken hb hx]
  rfl

theorem xtByte_held (hr : r = .next (s.xtByte rule)) (hb : s.xt.chan.rxHead = some b)
    (hx : rule s.cfg s.xt b = none) : r = .next s := by
  rw [hr, State.xtByte_held hb hx]

/-- A byte discarded while no acknowledgement is awaited: only the consume is left (R274, R275, R279, R287). -/
theorem xtByte_discarded (hr : r = .next (s.xtByte fun c x _ => some (x.discardByte c)))
    (hb : s.xt.chan.rxHead = some b) (h : s.xt.state.awaiting = false) :
    r = .next { s with xt := { s.xt with chan := s.xt.chan.consume s.cfg } } :=
  xtByte_taken hr hb (congrArg some (if_neg (ne_true_of_eq_false h)))

/-- A byte that is no reply while an acknowledgement is awaited reloads the timer (R288, R292). -/
theorem takeTurn_xt_noReply (hb : s.xt.chan.rxHead = some b) (h : s.xt.state.awaiting = true) (notAck : b ≠ 0x06)
    (notNak : b ≠ 0x15) (notCan : b ≠ 0x18) :
    takeTurn (.byteStep .xt) s = .next { s with
      xt := { s.xt with timer := s.cfg.xtAckTimeout, chan := s.xt.chan.consume s.cfg } } :=
  xtByte_taken (takeTurn_xt_reject hb (xtSpace_awaiting h) (decodeXtReply_ignored notAck notNak notCan)) hb
    (congrArg some (if_pos h))

end

end Sys2Proof.Machine

namespace Sys2Proof.Proofs
open Sys2Proof.Machine

/-- Settles O45: one case per space of XT, and in each one per row of the decoder. -/
theorem xtDiscardsWhatItsStateIgnores : Obligations.XtDiscardsWhatItsStateIgnores := by
  intro s b hb
  refine ⟨fun inactive => ?inactive, fun hs => ?awaitMode, fun sending => ?busy, fun hs => ?awaitAck⟩
  case inactive =>
    exact xtByte_discarded (takeTurn_xt_inactive hb inactive) hb (XtState.not_awaiting_of_inactive inactive)
  case awaitMode =>
    have space : xtSpace s.xt.state b = some (.xtMode b) := by rw [hs]; rfl
    refine ⟨?modeCrc, ?modeNak, ?modeCan, fun notC notNak notCan => ?modeIgnored⟩
    case modeIgnored =>
      exact xtByte_discarded (takeTurn_xt_reject hb space (decodeXtMode_ignored notC notNak notCan)) hb
        (by rw [hs]; rfl)
    all_goals
      rintro rfl
      exact takeTurn_xt_instr hb space rfl
  case busy =>
    obtain ⟨space, notAwaiting⟩ :
        xtSpace s.xt.state b = some (.xtBusy b) ∧ s.xt.state.awaiting = false := by
      rcases sending with hs | hs | hs | hs | hs | hs <;> rw [hs] <;> exact ⟨rfl, rfl⟩
    refine ⟨fun can => ?busyCan, fun notCan => ?busyIgnored⟩
    case busyCan => exact takeTurn_xt_instr hb space (by rw [can]; rfl)
    case busyIgnored =>
      exact xtByte_discarded (takeTurn_xt_reject hb space (decodeXtBusy_ignored notCan)) hb notAwaiting
  case awaitAck =>
    have awaiting : s.xt.state.awaiting = true := by rw [hs]; rfl
    refine ⟨?replyAck, ?replyNak, ?replyCan, takeTurn_xt_noReply hb awaiting⟩
    all_goals
      rintro rfl
      exact takeTurn_xt_instr hb (xtSpace_awaiting awaiting) rfl

end Sys2Proof.Proofs
end

section
/-!
The XT rules behind the tokens (R276 to R278, R289, R290, R292): what each answers with room for its outputs, and that
it is held without.
-/
namespace Sys2Proof.Machine

section
variable {c : Config} {x : Xt} {m : CheckMode}

theorem Xt.selectMode_of_room (ev : x.chan.evq.length < c.evqCap) :
    x.selectMode m c = some { x.post (.xtReady (m.bit.setWidth 8)) with mode := m, state := .waitFrame } :=
  if_pos ((x.chan.one_le_evRoom_iff c).mpr ev)

theorem Xt.selectMode_held (full : c.evqCap ≤ x.chan.evq.length) : x.selectMode m c = none :=
  if_neg (Channel.not_evRoom full)

theorem Channel.txPush_nil (ch : Channel) : ch.txPush [] = ch := by
  rw [Channel.txPush, List.append_nil]

theorem Xt.canRule_of_room (ev : x.chan.evq.length < c.evqCap) :
    x.canRule c = some { x.post (.xtCancelled x.seq) with state := .cancelled, timer := 0 } := by
  rw [Xt.canRule, if_pos ((x.chan.one_le_evRoom_iff c).mpr ev), Xt.failureEntry, Channel.txPush_nil]
  rfl

theorem Xt.canRule_held (full : c.evqCap ≤ x.chan.evq.length) : x.canRule c = none :=
  if_neg (Channel.not_evRoom full)

/-! ## ACK -/

theorem Xt.ackRule_awaitAck (hs : x.state = .awaitAck) : x.ackRule c = x.frameAcked c := if_pos hs

theorem Xt.ackRule_awaitEotAck (hs : x.state = .awaitEotAck) : x.ackRule c = x.eotAcked c :=
  if_neg (hs.trans_ne (by decide))

theorem total_add_dataLen (total : Word) (len : BitVec 11) :
    total + len.setWidth 32 = BitVec.ofNat 32 (total.toNat + len.toNat) :=
  BitVec.eq_of_toNat_eq (by simp)

theorem Xt.frameAcked_full (whole : x.short = false) (ev : x.chan.evq.length < c.evqCap) :
    x.frameAcked c = some { x.post (.xtAcked x.seq (x.dataLen.setWidth 16) 0) with
      total := BitVec.ofNat 32 (x.total.toNat + x.dataLen.toNat), seq := x.seq + 1, retry := 0
      state := .waitFrame, timer := 0 } := by
  rw [Xt.frameAcked, if_pos ⟨(x.chan.one_le_evRoom_iff c).mpr ev, .inl whole⟩, ← total_add_dataLen, whole]
  rfl

theorem Xt.frameAcked_short (isShort : x.short = true) (ev : x.chan.evq.length < c.evqCap)
    (tx : x.chan.txq.length < c.txqCap) :
    x.frameAcked c = some { (x.post (.xtAcked x.seq (x.dataLen.setWidth 16) 1)).txPush [0x04] with
      total := BitVec.ofNat 32 (x.total.toNat + x.dataLen.toNat), seq := x.seq + 1, retry := 0
      state := .awaitEotAck, timer := c.xtAckTimeout } := by
  obtain ⟨txRoom, evRoom⟩ := Channel.txRoom_and_evRoom tx ev
  rw [Xt.frameAcked, if_pos ⟨evRoom, .inr txRoom⟩, ← total_add_dataLen, isShort]
  rfl

theorem Xt.frameAcked_held
    (full : c.evqCap ≤ x.chan.evq.length ∨ (x.short = true ∧ c.txqCap ≤ x.chan.txq.length)) :
    x.frameAcked c = none := by
  refine if_neg fun ⟨evRoom, wholeOrRoom⟩ => ?_
  obtain evFull | ⟨isShort, txFull⟩ := full
  · exact Channel.not_evRoom evFull evRoom
  · exact wholeOrRoom.elim (ne_false_of_eq_true isShort) (Channel.not_txRoom txFull)

theorem Xt.eotAcked_of_room (ev : x.chan.evq.length < c.evqCap) :
    x.eotAcked c = some { x.post (.xtDone x.total) with state := .done, timer := 0 } :=
  if_pos ((x.chan.one_le_evRoom_iff c).mpr ev)

theorem Xt.eotAcked_held (full : c.evqCap ≤ x.chan.evq.length) : x.eotAcked c = none :=
  if_neg (Channel.not_evRoom full)

/-! ## NAK -/

theorem Xt.nakRule_awaitAck (hs : x.state = .awaitAck) : x.nakRule c = x.frameNaked c := if_pos hs

theorem Xt.nakRule_awaitEotAck (hs : x.state = .awaitEotAck) : x.nakRule c = x.eotNaked c :=
  if_neg (hs.trans_ne (by decide))

theorem Xt.frameNaked_spent (spent : x.retry = c.xtMaxRetries) : x.frameNaked c = x.exhausted c := if_pos spent

theorem Xt.frameNaked_retry (left : x.retry ≠ c.xtMaxRetries) :
    x.frameNaked c = some { x with
      retry := x.retry + 1, sent := 0, tidx := false, state := .sendHeader, timer := 0 } := if_neg left

theorem Xt.eotNaked_spent (spent : x.retry = c.xtMaxRetries) : x.eotNaked c = x.exhausted c := if_pos spent

theorem Xt.eotNaked_retry (left : x.retry ≠ c.xtMaxRetries) (tx : x.chan.txq.length < c.txqCap) :
    x.eotNaked c = some { x.txPush [0x04] with retry := x.retry + 1, timer := c.xtAckTimeout } :=
  (if_neg left).trans (if_pos ((x.chan.one_le_txRoom_iff c).mpr tx))

theorem Xt.eotNaked_retry_held (left : x.retry ≠ c.xtMaxRetries) (full : c.txqCap ≤ x.chan.txq.length) :
    x.eotNaked c = none := (if_neg left).trans (if_neg (Channel.not_txRoom full))

end

/-! ## The spent budget, in either state that reads NAK -/

/-- A step whose rule is the spent budget's gives up or is held. -/
theorem xtByte_exhausted {s : State} {b : Byte} {rule : Config → Xt → Byte → Option Xt}
    {r : Host.Outcome State Fault Refusal} {room : Prop} (hr : r = .next (s.xtByte rule))
    (hb : s.xt.chan.rxHead = some b) (spent : rule s.cfg s.xt b = s.xt.exhausted s.cfg)
    (hroom : room ↔ 3 ≤ s.cfg.txqCap - s.xt.chan.txq.length ∧ s.xt.chan.evq.length < s.cfg.evqCap) :
    (room → r = .next { s with
      xt := { s.xt with
        state := .failed, timer := 0
        chan := { s.xt.chan.consume s.cfg with
          txq := s.xt.chan.txq ++ [0x18, 0x18, 0x18]
          evq := s.xt.chan.evq ++ [.xtRetriesExhausted s.xt.seq] } } }) ∧
    (¬room → r = .next s) := by
  have fits : room ↔ 3 ≤ s.xt.chan.txRoom s.cfg ∧ 1 ≤ s.xt.chan.evRoom s.cfg :=
    hroom.trans (and_congr_right' (s.xt.chan.one_le_evRoom_iff s.cfg).symm)
  exact ⟨fun h => xtByte_taken hr hb (spent.trans (if_pos (fits.mp h))),
    fun h => xtByte_held hr hb (spent.trans (if_neg (mt fits.mpr h)))⟩

end Sys2Proof.Machine

namespace Sys2Proof.Proofs
open Sys2Proof.Machine

/-- Settles O41. -/
theorem xtModeAndCanTokens : Obligations.XtModeAndCanTokens := by
  refine ⟨fun s hs => ⟨fun hb ev => ?crc, fun hb full => ?crcHeld, fun hb ev => ?checksum, fun hb full => ?checksumHeld⟩,
    fun s active hb => ⟨takeTurn_xtCan active hb, fun ev => ?can, fun full => ?canHeld⟩⟩
  case crc => exact xtByte_taken (exec_xtModeCrc hs hb) hb (Xt.selectMode_of_room ev)
  case crcHeld => exact xtByte_held (exec_xtModeCrc hs hb) hb (Xt.selectMode_held full)
  case checksum => exact xtByte_taken (exec_xtModeChecksum hs hb) hb (Xt.selectMode_of_room ev)
  case checksumHeld => exact xtByte_held (exec_xtModeChecksum hs hb) hb (Xt.selectMode_held full)
  case can => exact xtByte_taken (exec_xtCan active hb) hb (Xt.canRule_of_room ev)
  case canHeld => exact xtByte_held (exec_xtCan active hb) hb (Xt.canRule_held full)

/-- Settles O42. -/
theorem xtAckAdvancesTheFrame : Obligations.XtAckAdvancesTheFrame := by
  intro s hs hb
  have step := exec_xtAck (by rw [hs]; rfl) hb
  have rule : s.xt.ackRule s.cfg = s.xt.frameAcked s.cfg := Xt.ackRule_awaitAck hs
  exact ⟨fun whole ev => xtByte_taken step hb (rule.trans (Xt.frameAcked_full whole ev)),
    fun isShort ev tx => xtByte_taken step hb (rule.trans (Xt.frameAcked_short isShort ev tx)),
    fun full => xtByte_held step hb (rule.trans (Xt.frameAcked_held full))⟩

/-- Settles O43. -/
theorem xtNakResendsTheSameFrame : Obligations.XtNakResendsTheSameFrame := by
  intro s room hs hb hroom
  have step := exec_xtNak (by rw [hs]; rfl) hb
  have rule : s.xt.nakRule s.cfg = s.xt.frameNaked s.cfg := Xt.nakRule_awaitAck hs
  have giveUp (spent : s.xt.retry = s.cfg.xtMaxRetries) :=
    xtByte_exhausted step hb (rule.trans (Xt.frameNaked_spent spent)) hroom
  exact ⟨fun left => xtByte_taken step hb (rule.trans (Xt.frameNaked_retry left)),
    fun spent => (giveUp spent).1, fun spent => (giveUp spent).2⟩

/-- Settles O44: one case per row of R292. -/
theorem xtEotIsAcknowledgedOrResent : Obligations.XtEotIsAcknowledgedOrResent := by
  intro s b room hs hb hroom
  have awaiting : s.xt.state.awaiting = true := by rw [hs]; rfl
  have space : xtSpace s.xt.state b = some (.xtReply b) := xtSpace_awaiting awaiting
  have ack (h : b = 0x06) := exec_xtAck awaiting (h ▸ hb)
  have nak (h : b = 0x15) := exec_xtNak awaiting (h ▸ hb)
  have ackRule : s.xt.ackRule s.cfg = s.xt.eotAcked s.cfg := Xt.ackRule_awaitEotAck hs
  have nakRule : s.xt.nakRule s.cfg = s.xt.eotNaked s.cfg := Xt.nakRule_awaitEotAck hs
  have giveUp (h : b = 0x15) (spent : s.xt.retry = s.cfg.xtMaxRetries) :=
    xtByte_exhausted (nak h) hb (nakRule.trans (Xt.eotNaked_spent spent)) hroom
  refine ⟨fun h => ?readsAck, fun h ev => ?done, fun h full => ?doneHeld, fun h => ?readsNak,
    fun h spent => (giveUp h spent).1, fun h spent => (giveUp h spent).2, fun h left tx => ?resent,
    fun h left full => ?resentHeld, fun h => ?readsCan, takeTurn_xt_noReply hb awaiting⟩
  case done => exact xtByte_taken (ack h) hb (ackRule.trans (Xt.eotAcked_of_room ev))
  case doneHeld => exact xtByte_held (ack h) hb (ackRule.trans (Xt.eotAcked_held full))
  case resent => exact xtByte_taken (nak h) hb (nakRule.trans (Xt.eotNaked_retry left tx))
  case resentHeld => exact xtByte_held (nak h) hb (nakRule.trans (Xt.eotNaked_retry_held left full))
  all_goals exact takeTurn_xt_instr hb space (by rw [h]; rfl)

end Sys2Proof.Proofs
end

section
/-! The emission steps of XT (R281 to R286): when one is enabled, and what it queues in each SEND state. -/
namespace Sys2Proof.Machine

/-! ## The turn -/

section
variable {s : State} {x : Xt}

theorem takeTurn_emit_taken (h : s.xt.emit s.cfg = some x) : takeTurn .emit s = .next { s with xt := x } := by
  rw [takeTurn_of_none rfl, plainTurn, emitTurn, h]
  rfl

theorem takeTurn_emit_not_enabled (h : s.xt.emit s.cfg = none) : takeTurn .emit s = .next s := by
  rw [takeTurn_of_none rfl, plainTurn, emitTurn, h]

end

/-! ## When it is enabled -/

section
variable {c : Config} {x : Xt} {b : Byte}

theorem Xt.emit_without_room (full : c.txqCap ≤ x.chan.txq.length) : x.emit c = none :=
  if_pos (Nat.not_le.mp (Channel.not_txRoom full))

theorem Xt.emit_outside_send (notHeader : x.state ≠ .sendHeader) (notSequence : x.state ≠ .sendSequence)
    (notComplement : x.state ≠ .sendSequenceComplement) (notData : x.state ≠ .sendData)
    (notChecksum : x.state ≠ .sendChecksum) : x.emit c = none := by
  cases hx : x.emit c with
  | none => rfl
  | some y =>
    obtain ⟨_, ⟨hs, _⟩ | ⟨hs, _⟩ | ⟨hs, _⟩ | ⟨hs, _⟩ | ⟨hs, _⟩⟩ := Xt.emit_cases hx
    exacts [absurd hs notHeader, absurd hs notSequence, absurd hs notComplement, absurd hs notData,
      absurd hs notChecksum]

/-- Past the room check of R281: what is emitted then depends on the SEND state alone. -/
theorem Xt.emit_of_room (tx : x.chan.txq.length < c.txqCap) :
    (x.state = .sendHeader → x.emit c = some x.emitHeader) ∧
    (x.state = .sendSequence → x.emit c = some x.emitSequence) ∧
    (x.state = .sendSequenceComplement → x.emit c = some x.emitComplement) ∧
    (x.state = .sendData → x.emit c = x.emitData) ∧
    (x.state = .sendChecksum → x.emit c = some (x.emitChecksum c)) := by
  have room : ¬x.chan.txRoom c < 1 := Nat.not_lt.mpr ((x.chan.one_le_txRoom_iff c).mpr tx)
  refine ⟨?_, ?_, ?_, ?_, ?_⟩ <;> intro hs <;> rw [Xt.emit, if_neg room, hs]

/-! ## What it queues -/

theorem Xt.emitHeader_eq (x : Xt) :
    x.emitHeader = { x.txPush [if x.mode = .crc then 0x02 else 0x01] with state := .sendSequence } := by
  unfold Xt.emitHeader
  cases x.mode <;> rfl

theorem Xt.emitData_more (hb : x.buf[x.sent.toNat]? = some b) (more : (x.sent + 1).toNat ≠ x.mode.frameSize) :
    x.emitData = some { x.txPush [b] with sent := x.sent + 1 } := by
  rw [Xt.emitData, hb]
  exact congrArg some (if_neg more)

theorem Xt.emitData_last (hb : x.buf[x.sent.toNat]? = some b) (last : (x.sent + 1).toNat = x.mode.frameSize) :
    x.emitData = some { x.txPush [b] with sent := x.sent + 1, tidx := false, state := .sendChecksum } := by
  rw [Xt.emitData, hb]
  exact congrArg some (if_pos last)

theorem Xt.emitChecksum_checksum (hm : x.mode = .checksum) :
    x.emitChecksum c = (x.txPush [sum8 (x.buf.take 128)]).frameSent c := by
  rw [Xt.emitChecksum, hm]
  rfl

theorem Xt.emitChecksum_crc_first (hm : x.mode = .crc) (ht : x.tidx = false) :
    x.emitChecksum c = { x.txPush [hi (crc16Ccitt 0 (x.buf.take 1024))] with tidx := true } := by
  rw [Xt.emitChecksum, hm]
  exact if_pos ht

theorem Xt.emitChecksum_crc_second (hm : x.mode = .crc) (ht : x.tidx = true) :
    x.emitChecksum c = { x.txPush [lo (crc16Ccitt 0 (x.buf.take 1024))] with tidx := false }.frameSent c := by
  rw [Xt.emitChecksum, hm]
  exact if_neg (ne_false_of_eq_true ht)

end

end Sys2Proof.Machine

namespace Sys2Proof.Proofs
open Sys2Proof.Machine

/-- Settles O46: one case per SEND state, the data and trailer states split by what is left to send. -/
theorem xtEmitsOneBytePerStep : Obligations.XtEmitsOneBytePerStep := by
  intro s
  refine ⟨fun full => ?noRoom, fun notHeader notSequence notComplement notData notChecksum => ?notSending,
    fun tx => ?room⟩
  case noRoom => exact takeTurn_emit_not_enabled (Xt.emit_without_room full)
  case notSending =>
    exact takeTurn_emit_not_enabled (Xt.emit_outside_send notHeader notSequence notComplement notData notChecksum)
  case room =>
    obtain ⟨header, sequence, complement, data, checksum⟩ := Xt.emit_of_room (c := s.cfg) tx
    refine ⟨fun hs => ?header, fun hs => takeTurn_emit_taken (sequence hs),
      fun hs => takeTurn_emit_taken (complement hs), fun hs b hb more => ?data, fun hs b hb last => ?lastData,
      fun hs hm => ?checksum, fun hs hm ht => ?crcHigh, fun hs hm ht => ?crcLow⟩
    case header => exact takeTurn_emit_taken ((header hs).trans (congrArg some s.xt.emitHeader_eq))
    case data =>
      rw [CheckMode.ite_eq_frameSize] at more
      exact takeTurn_emit_taken ((data hs).trans (Xt.emitData_more hb more))
    case lastData =>
      rw [CheckMode.ite_eq_frameSize] at last
      exact takeTurn_emit_taken ((data hs).trans (Xt.emitData_last hb last))
    case checksum =>
      exact takeTurn_emit_taken ((checksum hs).trans (congrArg some (Xt.emitChecksum_checksum hm)))
    case crcHigh =>
      exact takeTurn_emit_taken ((checksum hs).trans (congrArg some (Xt.emitChecksum_crc_first hm ht)))
    case crcLow =>
      exact takeTurn_emit_taken ((checksum hs).trans (congrArg some (Xt.emitChecksum_crc_second hm ht)))

end Sys2Proof.Proofs
end

section
/-! The generic host commands (R320 to R322), each answer said once, and the registers as concatenations of fields (R50
to R60): a field is read off by peeling the fields below it. -/
namespace Sys2Proof.Machine

/-! ## Fields of a concatenation -/

/-- A register is a `Word`, not a `BitVec (v + w)`: the concatenation is matched up to the sum of its widths. -/
@[simp] theorem extractLsb'_concat_above {v w start len : Nat} (high : BitVec v) (low : BitVec w) (h : w ≤ start) :
    (no_index (high ++ low)).extractLsb' start len = high.extractLsb' (start - w) len :=
  BitVec.extractLsb'_append_eq_of_le h

@[simp] theorem extractLsb'_concat_low {v w : Nat} (high : BitVec v) (low : BitVec w) :
    (no_index (high ++ low)).extractLsb' 0 w = low := BitVec.extractLsb'_append_eq_right

@[simp] theorem getLsbD_concat_above {v w i : Nat} (high : BitVec v) (low : BitVec w) (h : w ≤ i) :
    (no_index (high ++ low)).getLsbD i = high.getLsbD (i - w) := by
  rw [BitVec.getLsbD_append, if_neg (Nat.not_lt.mpr h)]

@[simp] theorem getLsbD_concat_low {v w i : Nat} (high : BitVec v) (low : BitVec w) (h : i < w) :
    (no_index (high ++ low)).getLsbD i = low.getLsbD i := by
  rw [BitVec.getLsbD_append, if_pos h]

/-! ## One-bit fields -/

@[simp] theorem flag_getLsbD_zero (b : Bool) : (flag b).getLsbD 0 = b := by cases b <;> rfl

@[simp] theorem CheckMode.bit_getLsbD_zero (m : CheckMode) : m.bit.getLsbD 0 = decide (m = .crc) := by cases m <;> rfl

@[simp] theorem CrcMode.bit_getLsbD_zero (m : CrcMode) : m.bit.getLsbD 0 = decide (m = .modbus) := by cases m <;> rfl

@[simp] theorem Channel.txqEmpty_eq_decide (ch : Channel) : ch.txqEmpty = decide (ch.txq = []) := by
  cases h : ch.txq <;> simp [Channel.txqEmpty, h]

theorem Fe.mpsReg_eq_setWidth (f : Fe) : f.mpsReg = f.mps.setWidth 32 := by
  simp [Fe.mpsReg, BitVec.setWidth_eq_append]

variable {s : State}

/-! ## REG_READ -/

theorem exec_regRead_of_some {reg : Byte} {v : Word} (h : readReg s reg = some v) :
    exec (.regRead reg) s = .next { s with response := some ⟨.ok, .value v⟩ } := by
  show execRegRead reg s = _
  rw [execRegRead, h]
  rfl

theorem exec_regRead_of_none {reg : Byte} (h : readReg s reg = none) :
    exec (.regRead reg) s = .next { s with response := some ⟨.invalid, .none⟩ } := by
  show execRegRead reg s = _
  rw [execRegRead, h]
  rfl

theorem readReg_of_le {reg : Byte} (h : 0x0B ≤ reg.toNat) : readReg s reg = none := by
  have notBelow : ∀ k : Byte, k.toNat < 0x0B → reg ≠ k := by
    rintro k lt rfl
    omega
  simp [readReg, notBelow]

/-! ## REG_WRITE -/

theorem mpsLegal_iff {c : Config} {v : Word} :
    mpsLegal c v = true ↔
      v.extractLsb' 16 16 = 0 ∧ v.extractLsb' 0 16 ≠ 0 ∧ (v.extractLsb' 0 16).toNat ≤ c.mpsMax := by
  have isWord := v.isLt
  have upper : (v.extractLsb' 16 16).toNat = v.toNat / 65536 % 65536 := by
    rw [BitVec.extractLsb'_toNat, Nat.shiftRight_eq_div_pow]
  have lower : (v.extractLsb' 0 16).toNat = v.toNat % 65536 := BitVec.extractLsb'_toNat 0 16 v
  simp only [mpsLegal, Bool.and_eq_true, decide_eq_true_eq, ne_eq, ← BitVec.toNat_inj, upper, lower,
    show (0 : Half).toNat = 0 from rfl]
  omega

theorem exec_regWrite_of_other {reg : Byte} {v : Word} (h : reg ≠ 0) :
    exec (.regWrite reg v) s = .next { s with response := some ⟨.invalid, .none⟩ } := if_pos h

theorem exec_regWrite_of_illegal {v : Word} (h : mpsLegal s.cfg v = false) :
    exec (.regWrite 0 v) s = .next { s with response := some ⟨.invalid, .none⟩ } := if_pos h

/-- Past the operand checks of R321: what REG_WRITE does then depends on FE's state alone. -/
theorem exec_regWrite_of_legal {v : Word} (h : mpsLegal s.cfg v = true) :
    exec (.regWrite 0 v) s =
      if s.fe.rxState ≠ .waitStart then .next { s with response := some ⟨.busy, .none⟩ }
      else .next { s with fe := { s.fe with mps := v.extractLsb' 0 16 }, response := some ⟨.ok, .none⟩ } := by
  rw [← BitVec.setWidth_eq_extractLsb' (by decide)]
  exact if_neg (ne_false_of_eq_true h)

/-! ## EV_POP -/

theorem unitOf_of_three_le {unit : Byte} (h : 3 ≤ unit.toNat) : unitOf unit = none := by
  have notBelow : ∀ k : Byte, k.toNat < 3 → unit ≠ k := by
    rintro k lt rfl
    omega
  simp [unitOf, notBelow]

theorem exec_evPop_of_no_unit {unit : Byte} (h : unitOf unit = none) :
    exec (.evPop unit) s = .next { s with response := some ⟨.invalid, .none⟩ } := by
  show execEvPop unit s = _
  rw [execEvPop, h]
  rfl

theorem exec_evPop_of_empty {unit : Byte} {u : UnitId} (h : unitOf unit = some u) (hq : (s.chanOf u).evq = []) :
    exec (.evPop unit) s = .next { s with response := some ⟨.empty, .none⟩ } := by
  show execEvPop unit s = _
  simp only [execEvPop, h, Channel.evPop, hq]
  rfl

theorem exec_evPop_of_head {unit : Byte} {u : UnitId} {e : Event} {es : List Event} (h : unitOf unit = some u)
    (hq : (s.chanOf u).evq = e :: es) :
    exec (.evPop unit) s = .next { s.setChan u { s.chanOf u with evq := es } with
      response := some ⟨.ok, .record e.code e⟩ } := by
  show execEvPop unit s = _
  simp only [execEvPop, h, Channel.evPop, hq]
  rfl

end Sys2Proof.Machine

namespace Sys2Proof.Proofs
open Sys2Proof.Machine

/-- Settles O10: each register is the concatenation of its fields, peeled from the low end. -/
theorem regReadReturnsTheRegister : Obligations.RegReadReturnsTheRegister := by
  refine fun s => ⟨?feMps, exec_regRead_of_some rfl, exec_regRead_of_some rfl, exec_regRead_of_some rfl,
    exec_regRead_of_some rfl, ⟨s.fe.statusReg, exec_regRead_of_some rfl, ?feStatus⟩,
    ⟨s.xr.statusReg, exec_regRead_of_some rfl, ?xrStatus⟩, ⟨s.xr.countReg, exec_regRead_of_some rfl, ?xrCount⟩,
    ⟨s.xt.statusReg, exec_regRead_of_some rfl, ?xtStatus⟩, ⟨s.xt.countReg, exec_regRead_of_some rfl, ?xtCount⟩,
    ⟨s.crcu.stateReg, exec_regRead_of_some rfl, ?crcState⟩, fun _ high => exec_regRead_of_none (readReg_of_le high)⟩
  case feMps => rw [← Fe.mpsReg_eq_setWidth]; exact exec_regRead_of_some rfl
  case feStatus => simp [Fe.statusReg, bne, Bool.beq_eq_decide_eq, -BitVec.getLsbD_eq_getElem]
  case xrStatus => simp [Xr.statusReg, bne, Bool.beq_eq_decide_eq, -BitVec.getLsbD_eq_getElem]
  case xrCount => simp [Xr.countReg, -BitVec.getLsbD_eq_getElem]
  case xtStatus => simp [Xt.statusReg, bne, Bool.beq_eq_decide_eq, -BitVec.getLsbD_eq_getElem]
  case xtCount => simp [Xt.countReg, -BitVec.getLsbD_eq_getElem]
  case crcState => simp [Crcu.stateReg, -BitVec.getLsbD_eq_getElem]

/-- Settles O12: the operand checks, then the state check. -/
theorem regWriteSetsTheMpsOnly : Obligations.RegWriteSetsTheMpsOnly := by
  refine fun reg v s => ⟨exec_regWrite_of_other, ?illegal, ?legal⟩
  case illegal =>
    rintro rfl bad
    refine exec_regWrite_of_illegal (Bool.eq_false_iff.mpr fun legal => ?_)
    obtain ⟨upper, nonzero, fits⟩ := mpsLegal_iff.mp legal
    exact bad.elim (· upper) (·.elim nonzero (Nat.not_lt.mpr fits))
  case legal =>
    rintro rfl upper nonzero fits
    rw [exec_regWrite_of_legal (mpsLegal_iff.mpr ⟨upper, nonzero, fits⟩)]
    exact ⟨fun busy => if_pos busy, fun waits => if_neg (not_not.mpr waits)⟩

/-- Settles O13, one case per unit. -/
theorem evPopRemovesTheHeadRecord : Obligations.EvPopRemovesTheHeadRecord := by
  refine fun unit s => ⟨fun bad => exec_evPop_of_no_unit (unitOf_of_three_le bad), ?feEmpty, ?xrEmpty, ?xtEmpty,
    fun e es => ⟨?feHead, ?xrHead, ?xtHead⟩⟩
  case feEmpty => rintro rfl empty; exact exec_evPop_of_empty (u := .fe) rfl empty
  case xrEmpty => rintro rfl empty; exact exec_evPop_of_empty (u := .xr) rfl empty
  case xtEmpty => rintro rfl empty; exact exec_evPop_of_empty (u := .xt) rfl empty
  case feHead => rintro rfl head; exact exec_evPop_of_head (u := .fe) rfl head
  case xrHead => rintro rfl head; exact exec_evPop_of_head (u := .xr) rfl head
  case xtHead => rintro rfl head; exact exec_evPop_of_head (u := .xt) rfl head

end Sys2Proof.Proofs
end

section
/-! The contract of every host command (R323): it answers a status, and one that is not OK leaves the block as it
was. -/
namespace Sys2Proof.Machine

/-- `o` is the answer of a host command taken in state `s`, as R323 asks of it. -/
def Answers (s : State) (o : Host.Outcome State Fault Refusal) : Prop :=
  ∃ (t : State) (r : Response), o = .next t ∧ t.response = some r ∧
    (r.status ≠ .ok → t = { s with response := some r })

variable {s : State}

/-! ## The ways to answer -/

/-- A command that does nothing but answer may answer any status. -/
theorem Answers.unchanged {r : Response} : Answers s (.next { s with response := some r }) :=
  ⟨_, r, rfl, rfl, fun _ => rfl⟩

/-- A command that answers OK may change anything. -/
theorem Answers.ok {t : State} {result : Result} (h : t.response = some ⟨.ok, result⟩) : Answers s (.next t) :=
  ⟨t, _, rfl, h, fun notOk => absurd rfl notOk⟩

/-- A check keeps the contract when both of its outcomes do. -/
theorem Answers.check {p : Prop} [Decidable p] {a b : Host.Outcome State Fault Refusal} (ha : Answers s a)
    (hb : Answers s b) : Answers s (if p then a else b) := by
  split
  · exact ha
  · exact hb

/-! ## The commands that look up their operand or a queue -/

theorem answers_regRead (reg : Byte) : Answers s (exec (.regRead reg) s) := by
  cases h : readReg s reg with
  | none => rw [exec_regRead_of_none h]; exact .unchanged
  | some v => rw [exec_regRead_of_some h]; exact .unchanged

theorem answers_evPop (unit : Byte) : Answers s (exec (.evPop unit) s) := by
  cases h : unitOf unit with
  | none => rw [exec_evPop_of_no_unit h]; exact .unchanged
  | some u =>
    cases hq : (s.chanOf u).evq with
    | nil => rw [exec_evPop_of_empty h hq]; exact .unchanged
    | cons e es => rw [exec_evPop_of_head h hq]; exact .ok rfl

theorem answers_xrStart (mode : Byte) : Answers s (exec (.xrStart mode) s) := by
  cases Nat.lt_or_ge 1 mode.toNat with
  | inl illegal => rw [exec_xrStart_of_no_mode (checkModeOf_of_two_le illegal)]; exact .unchanged
  | inr legal => rw [exec_xrStart_of_legal legal]; exact .check .unchanged (.check .unchanged (.ok rfl))

theorem answers_crcInit (mode : Byte) : Answers s (exec (.crcInit mode) s) := by
  cases h : crcModeOf mode with
  | none => rw [exec_crcInit_of_no_mode h]; exact .unchanged
  | some m => rw [exec_crcInit_of_mode h]; exact .ok rfl

/-! ## The commands that check and act -/

theorem answers_regWrite (reg : Byte) (v : Word) : Answers s (exec (.regWrite reg v) s) :=
  .check .unchanged (.check .unchanged (.check .unchanged (.ok rfl)))

theorem answers_feSend (type : Byte) (len : Half) (bytes : List Byte) : Answers s (exec (.feSend type len bytes) s) :=
  .check .unchanged (.check .unchanged (.check .unchanged (.ok rfl)))

theorem answers_feTake : Answers s (exec .feTake s) := .check (.ok rfl) .unchanged

theorem answers_xrCancel : Answers s (exec .xrCancel s) := .check .unchanged (.check .unchanged (.ok rfl))

theorem answers_xtStart : Answers s (exec .xtStart s) := .check .unchanged (.ok rfl)

theorem answers_xtSendFrame (n : Half) (bytes : List Byte) : Answers s (exec (.xtSendFrame n bytes) s) :=
  .check .unchanged (.check .unchanged (.check .unchanged (.ok rfl)))

theorem answers_xtOver : Answers s (exec .xtOver s) :=
  .check .unchanged (.check .unchanged (.check .unchanged (.ok rfl)))

theorem answers_xtCancel : Answers s (exec .xtCancel s) := .check .unchanged (.check .unchanged (.ok rfl))

/-! ## The commands that always answer OK -/

theorem answers_feAbortDataPhase : Answers s (exec .feAbortDataPhase s) := .ok rfl

theorem answers_feClrOvf : Answers s (exec .feClrOvf s) := .ok rfl

theorem answers_xrClrOvf : Answers s (exec .xrClrOvf s) := .ok rfl

theorem answers_xtClrOvf : Answers s (exec .xtClrOvf s) := .ok rfl

theorem answers_crcFeed (b : Byte) : Answers s (exec (.crcFeed b) s) := .ok rfl

/-! ## The instruction of a command -/

theorem answers_of_decode_command {c : Command} {i : Instr} (h : decode (.command c) = .instr i) :
    Answers s (exec i s) := by
  obtain ⟨-, rfl⟩ | ⟨-, rfl⟩ | ⟨-, rfl⟩ | ⟨-, rfl⟩ | ⟨-, rfl⟩ | ⟨-, rfl⟩ | ⟨-, rfl⟩ | ⟨-, rfl⟩ | ⟨-, rfl⟩ | ⟨-, rfl⟩ |
    ⟨-, rfl⟩ | ⟨-, rfl⟩ | ⟨-, rfl⟩ | ⟨-, rfl⟩ | ⟨-, rfl⟩ | ⟨-, rfl⟩ | ⟨-, rfl⟩ := decode_command_cases h
  · exact answers_regRead _
  · exact answers_regWrite _ _
  · exact answers_evPop _
  · exact answers_feSend _ _ _
  · exact answers_feTake
  · exact answers_feAbortDataPhase
  · exact answers_feClrOvf
  · exact answers_xrStart _
  · exact answers_xrCancel
  · exact answers_xrClrOvf
  · exact answers_xtStart
  · exact answers_xtSendFrame _ _
  · exact answers_xtOver
  · exact answers_xtCancel
  · exact answers_xtClrOvf
  · exact answers_crcInit _
  · exact answers_crcFeed _

end Sys2Proof.Machine

namespace Sys2Proof.Proofs
open Sys2Proof.Machine

/-- Settles O15: a reserved opcode answers INVALID and changes nothing, every other command keeps the contract. -/
theorem commandsAnswerAndFailuresChangeNothing : Obligations.CommandsAnswerAndFailuresChangeNothing := by
  intro c s
  show Answers s (takeTurn (.command c) s)
  cases h : decode (.command c) with
  | instr i => rw [takeTurn_of_instr rfl h]; exact answers_of_decode_command h
  | reject r => rw [takeTurn_of_reject rfl h]; exact .unchanged

end Sys2Proof.Proofs
end

section
/-! Reset (R370): every unit returns to its reset value, whatever it was doing, and the registers read what R371
lists. -/
namespace Sys2Proof.Machine

/-! ## The state after reset -/

theorem takeTurn_reset (s : State) : takeTurn .reset s = .next (resetTurn s) := takeTurn_of_none rfl

section
variable (s : State)

@[simp] theorem chanOf_resetTurn (u : UnitId) : (resetTurn s).chanOf u = Channel.reset s.cfg := by
  cases u with
  | fe => rfl
  | xr => rfl
  | xt => rfl

/-! ## The interrupt lines: no record is queued and no packet is delivered (R345) -/

theorem irqFe_resetTurn : irqFe (resetTurn s) = false :=
  Bool.eq_false_iff.mpr fun high => ((irqFe_iff _).mp high).elim (· rfl) Bool.false_ne_true

theorem irqXr_resetTurn : irqXr (resetTurn s) = false :=
  Bool.eq_false_iff.mpr fun high => (irqXr_iff _).mp high rfl

theorem irqXt_resetTurn : irqXt (resetTurn s) = false :=
  Bool.eq_false_iff.mpr fun high => (irqXt_iff _).mp high rfl

end

/-! ## The registers that are put together from fields (R371)

Each proof writes the register's fields out in the order of R50 to R60, most significant first. -/

section
variable (c : Config)

theorem Fe.mpsReg_reset : (Fe.reset c).mpsReg = 0x00000020 := by
  show 0#16 ++ 32#16 = 0x00000020#32
  decide

/-- TXQ_EMPTY alone. -/
theorem Fe.statusReg_reset : (Fe.reset c).statusReg = 0x00000100 := by
  show 0#8 ++ 0#8 ++ 0#6 ++ 0#1 ++ 1#1 ++ 0#1 ++ 0#1 ++ 0#1 ++ 0#1 ++ 0#1 ++ 0#3 = 0x00000100#32
  decide

/-- EXPECTED_SEQ 1 and FIRST. -/
theorem Xr.statusReg_reset : (Xr.reset c).statusReg = 0x00000120 := by
  show 0#8 ++ 0#8 ++ 1#8 ++ 0#1 ++ 0#1 ++ 1#1 ++ 0#1 ++ 0#4 = 0x00000120#32
  decide

/-- TXQ_EMPTY alone. -/
theorem Xr.countReg_reset : (Xr.reset c).countReg = 0x00004000 := by
  show 0#17 ++ 1#1 ++ 0#1 ++ 0#2 ++ 0#11 = 0x00004000#32
  decide

/-- TXQ_EMPTY and SEQ 1. -/
theorem Xt.statusReg_reset : (Xt.reset c).statusReg = 0x02000100 := by
  show 0#6 ++ 1#1 ++ 0#1 ++ 0#8 ++ 1#8 ++ 0#1 ++ 0#1 ++ 0#1 ++ 0#1 ++ 0#4 = 0x02000100#32
  decide

theorem Xt.countReg_reset : (Xt.reset c).countReg = 0 := by
  show 0#5 ++ 0#11 ++ 0#5 ++ 0#11 = 0#32
  decide

theorem Crcu.stateReg_reset : Crcu.reset.stateReg = 0 := by
  show 0#15 ++ 0#1 ++ 0#16 = 0#32
  decide

end

end Sys2Proof.Machine

namespace Sys2Proof.Proofs
open Sys2Proof.Machine

/-- Settles O57: the fields are those of the units' reset values; a register that is one field reads it, the others are
the lemmas above. -/
theorem resetSetsEveryField : Obligations.ResetSetsEveryField := by
  refine fun s => ⟨resetTurn s, takeTurn_reset s, rfl, ?fe, ?xr, ?xt, ⟨rfl, rfl⟩, fun u => ?channel,
    irqFe_resetTurn s, irqXr_resetTurn s, irqXt_resetTurn s, ?registers⟩
  case fe => exact ⟨rfl, rfl, rfl, rfl, rfl, rfl, rfl, rfl, rfl, rfl, rfl, rfl, rfl, rfl, rfl, rfl⟩
  case xr => exact ⟨rfl, rfl, rfl, rfl, rfl, rfl, rfl, rfl, rfl, rfl, rfl, rfl⟩
  case xt => exact ⟨rfl, rfl, rfl, rfl, rfl, rfl, rfl, rfl, rfl, rfl⟩
  case channel =>
    rw [chanOf_resetTurn]
    exact ⟨rfl, rfl, rfl, rfl, rfl⟩
  case registers =>
    exact ⟨congrArg some (Fe.mpsReg_reset _), congrArg some (Fe.statusReg_reset _), rfl,
      congrArg some (Xr.statusReg_reset _), congrArg some (Xr.countReg_reset _), rfl,
      congrArg some (Xt.statusReg_reset _), congrArg some (Xt.countReg_reset _), rfl, rfl,
      congrArg some Crcu.stateReg_reset⟩

end Sys2Proof.Proofs
end

section
/-! The encoder against the decoder (R101, R109, R121, R122, R130): every row is read back from its own encoding, and
whatever the decoder takes for an instruction carries the bits of that instruction's row. -/
namespace Sys2Proof

theorem decode_encode (i : Instr) : decode (encode i) = .instr i := by cases i <;> rfl

theorem encode_injective {i j : Instr} (h : encode i = encode j) : i = j :=
  Decoded.instr.inj ((decode_encode i).symm.trans ((congrArg decode h).trans (decode_encode j)))

/-! ## The bits of each space -/

theorem tableWord_of_decode_command {c : Command} {i : Instr} (h : decode (.command c) = .instr i) :
    (Encoding.command c).tableWord = (encode i).tableWord := by
  show (8, c.op.toNat) = (encode i).tableWord
  obtain ⟨op, rfl⟩ | ⟨op, rfl⟩ | ⟨op, rfl⟩ | ⟨op, rfl⟩ | ⟨op, rfl⟩ | ⟨op, rfl⟩ | ⟨op, rfl⟩ | ⟨op, rfl⟩ | ⟨op, rfl⟩ |
    ⟨op, rfl⟩ | ⟨op, rfl⟩ | ⟨op, rfl⟩ | ⟨op, rfl⟩ | ⟨op, rfl⟩ | ⟨op, rfl⟩ | ⟨op, rfl⟩ | ⟨op, rfl⟩ :=
    Machine.decode_command_cases h
  all_goals rw [op]; rfl

theorem tableWord_of_decode_kftHeader {first second : Byte} {i : Instr}
    (h : decode (.kftHeader first second) = .instr i) :
    (Encoding.kftHeader first second).tableWord = (encode i).tableWord := by
  simp only [decode, decodeKftHeader, ne_eq, ite_not] at h
  split_ifs at h <;> cases h <;> subst_vars <;> rfl

theorem tableWord_of_decode_xrHeader {b : Byte} {i : Instr} (h : decode (.xrHeader b) = .instr i) :
    (Encoding.xrHeader b).tableWord = (encode i).tableWord := by
  simp only [decode, decodeXrHeader] at h
  split_ifs at h <;> cases h <;> subst_vars <;> rfl

theorem tableWord_of_decode_xtMode {b : Byte} {i : Instr} (h : decode (.xtMode b) = .instr i) :
    (Encoding.xtMode b).tableWord = (encode i).tableWord := by
  simp only [decode, decodeXtMode] at h
  split_ifs at h <;> cases h <;> subst_vars <;> rfl

theorem tableWord_of_decode_xtReply {b : Byte} {i : Instr} (h : decode (.xtReply b) = .instr i) :
    (Encoding.xtReply b).tableWord = (encode i).tableWord := by
  simp only [decode, decodeXtReply] at h
  split_ifs at h <;> cases h <;> subst_vars <;> rfl

theorem tableWord_of_decode_xtBusy {b : Byte} {i : Instr} (h : decode (.xtBusy b) = .instr i) :
    (Encoding.xtBusy b).tableWord = (encode i).tableWord := by
  simp only [decode, decodeXtBusy] at h
  split_ifs at h
  cases h
  subst_vars
  rfl

/-! ## The reserved opcodes -/

/-- The opcodes of R121's rows. -/
def ListedOpcode (op : Byte) : Prop :=
  op ∈ [(0x01 : Byte), 0x02, 0x03, 0x10, 0x11, 0x12, 0x13, 0x20, 0x21, 0x22, 0x30, 0x31, 0x32, 0x33, 0x34, 0x40, 0x41]

theorem listedOpcode_of_instr {c : Command} {i : Instr} (h : decode (.command c) = .instr i) : ListedOpcode c.op := by
  unfold ListedOpcode
  obtain ⟨op, -⟩ | ⟨op, -⟩ | ⟨op, -⟩ | ⟨op, -⟩ | ⟨op, -⟩ | ⟨op, -⟩ | ⟨op, -⟩ | ⟨op, -⟩ | ⟨op, -⟩ | ⟨op, -⟩ | ⟨op, -⟩ |
    ⟨op, -⟩ | ⟨op, -⟩ | ⟨op, -⟩ | ⟨op, -⟩ | ⟨op, -⟩ | ⟨op, -⟩ := Machine.decode_command_cases h
  all_goals rw [op]; decide

theorem decode_of_listedOpcode {c : Command} (h : ListedOpcode c.op) : ∃ i, decode (.command c) = .instr i := by
  obtain ⟨op, arg8, arg16, arg32, bytes⟩ := c
  simp only [ListedOpcode, List.mem_cons, List.not_mem_nil, or_false] at h
  obtain rfl | rfl | rfl | rfl | rfl | rfl | rfl | rfl | rfl | rfl | rfl | rfl | rfl | rfl | rfl | rfl | rfl := h
  all_goals exact ⟨_, rfl⟩

theorem listedOpcode_iff (c : Command) : ListedOpcode c.op ↔ ∃ i, decode (.command c) = .instr i :=
  ⟨decode_of_listedOpcode, fun ⟨_, h⟩ => listedOpcode_of_instr h⟩

/-- The ranges of R122 are the opcodes R121 does not list. -/
theorem not_listedOpcode_iff (op : Byte) : ¬ListedOpcode op ↔
    (op.toNat = 0 ∨ (0x04 ≤ op.toNat ∧ op.toNat ≤ 0x0F) ∨ (0x14 ≤ op.toNat ∧ op.toNat ≤ 0x1F) ∨
      (0x23 ≤ op.toNat ∧ op.toNat ≤ 0x2F) ∨ (0x35 ≤ op.toNat ∧ op.toNat ≤ 0x3F) ∨ 0x42 ≤ op.toNat) := by
  simp only [ListedOpcode, List.mem_cons, List.not_mem_nil, or_false, ← BitVec.toNat_inj, BitVec.reduceToNat]
  omega

end Sys2Proof

namespace Sys2Proof.Proofs
open Sys2Proof.Machine

/-- Settles O1: decoding after encoding row by row, and the bits space by space; injectivity is decoding. -/
theorem decodeAndEncodeAgree : Obligations.DecodeAndEncodeAgree := by
  refine ⟨fun i _ => decode_encode i, fun e i h => ?bits, fun i j => encode_injective⟩
  cases e with
  | command c => exact tableWord_of_decode_command h
  | kftHeader first second => exact tableWord_of_decode_kftHeader h
  | xrHeader b => exact tableWord_of_decode_xrHeader h
  | xtMode b => exact tableWord_of_decode_xtMode h
  | xtReply b => exact tableWord_of_decode_xtReply h
  | xtBusy b => exact tableWord_of_decode_xtBusy h

/-- Settles O2: an opcode is reserved exactly when no row of R121 lists it, that is, when the decoder rejects it. -/
theorem reservedOpcodesAnswerInvalid : Obligations.ReservedOpcodesAnswerInvalid := by
  intro c s
  rw [← not_listedOpcode_iff, listedOpcode_iff]
  cases h : decode (.command c) with
  | instr i => exact ⟨fun reserved => absurd ⟨i, rfl⟩ reserved, fun _ => ⟨i, rfl, takeTurn_of_instr rfl h⟩⟩
  | reject r => exact ⟨fun _ => takeTurn_of_reject rfl h, fun listed => absurd (by rintro ⟨i, ⟨⟩⟩) listed⟩

/-- Settles O3: each word is closed, so the decoder evaluates. -/
theorem specWordsDecode : Obligations.SpecWordsDecode := ⟨rfl, rfl, rfl, rfl, rfl, rfl, rfl, rfl⟩

/-- Settles O4. -/
theorem stepRunsTheDecodedInstruction : Obligations.StepRunsTheDecodedInstruction :=
  ⟨fun _ _ _ _ _ ha hf hd => (step_of_turn ha).trans (takeTurn_of_instr hf hd),
    fun _ _ _ ha => step_of_turn ha, fun _ => step_of_empty⟩

end Sys2Proof.Proofs
end

section
/-! One wrong byte (R140): a round of the CCITT CRC can be undone, because the bit it shifts out comes back as bit 0; so a
byte step is injective in the running value and in the byte. The checksum of R144 catches one wrong byte as well. -/
namespace Sys2Proof.Machine

/-! ## A byte step is injective -/

/-- The bit that leaves at the top is the one the polynomial puts in at the bottom. -/
theorem ccittBit_getLsbD_zero (c : Half) : (ccittBit c).getLsbD 0 = c.getLsbD 15 := by
  unfold ccittBit
  split_ifs with h
  · simp [h]
  · simpa using h

theorem ccittBit_injective : Function.Injective ccittBit := by
  intro c d h
  have top : c.getLsbD 15 = d.getLsbD 15 := by rw [← ccittBit_getLsbD_zero, h, ccittBit_getLsbD_zero]
  have shifted : c <<< 1 = d <<< 1 := by
    unfold ccittBit at h
    rw [top] at h
    split_ifs at h
    · exact BitVec.xor_left_inj _ |>.mp h
    · exact h
  apply BitVec.eq_of_getLsbD_eq
  intro i lt
  obtain rfl | below : i = 15 ∨ i < 15 := by omega
  · exact top
  · have bit := congrArg (BitVec.getLsbD · (i + 1)) shifted
    have inWord : i + 1 < 16 := by omega
    simpa [inWord, show i < 16 by omega] using bit

theorem iter_injective {α : Type} {f : α → α} (h : Function.Injective f) (n : Nat) :
    Function.Injective (iter f n) := by
  induction n with
  | zero => exact Function.injective_id
  | succ n ih => exact ih.comp h

theorem stepCcitt_injective_value (b : Byte) : Function.Injective (stepCcitt · b) := by
  intro c d h
  exact BitVec.xor_left_inj _ |>.mp (iter_injective ccittBit_injective 8 h)

theorem stepCcitt_injective_byte (c : Half) : Function.Injective (stepCcitt c) := by
  intro a b h
  have shifted : a.setWidth 16 <<< 8 = b.setWidth 16 <<< 8 :=
    BitVec.xor_right_inj _ |>.mp (iter_injective ccittBit_injective 8 h)
  have value := congrArg BitVec.toNat shifted
  simp [Nat.shiftLeft_eq] at value
  exact BitVec.eq_of_toNat_eq (by omega)

theorem crc16Ccitt_injective (s : List Byte) : Function.Injective (crc16Ccitt · s) := by
  induction s with
  | nil => exact Function.injective_id
  | cons b s ih => exact ih.comp (stepCcitt_injective_value b)

theorem crc16Ccitt_ne_of_one_byte (c : Half) (before after : List Byte) {a b : Byte} (h : a ≠ b) :
    crc16Ccitt c (before ++ a :: after) ≠ crc16Ccitt c (before ++ b :: after) := by
  rw [crc16Ccitt_append, crc16Ccitt_append, crc16Ccitt_cons, crc16Ccitt_cons]
  exact (crc16Ccitt_injective after).ne ((stepCcitt_injective_byte _).ne h)

/-! ## The checksum -/

theorem foldl_add_injective (s : List Byte) : Function.Injective fun v : Byte => s.foldl (· + ·) v := by
  induction s with
  | nil => exact Function.injective_id
  | cons b s ih => exact ih.comp (add_left_injective b)

theorem sum8_ne_of_one_byte (before after : List Byte) {a b : Byte} (h : a ≠ b) :
    sum8 (before ++ a :: after) ≠ sum8 (before ++ b :: after) := by
  unfold sum8
  rw [List.foldl_append, List.foldl_append]
  exact (foldl_add_injective after).ne ((add_right_injective _).ne h)

/-! ## A stream of CRC_FEED commands -/

/-- The CRC the unit's mode continues over a sequence (R140, R142). -/
def Crcu.feedAll (u : Crcu) (bytes : List Byte) : Crcu := bytes.foldl Crcu.feed u

theorem Crcu.feedAll_eq (u : Crcu) (bytes : List Byte) :
    u.feedAll bytes = { u with acc := match u.mode with
      | .ccitt => crc16Ccitt u.acc bytes
      | .modbus => crc16Modbus u.acc bytes } := by
  induction bytes generalizing u with
  | nil =>
    obtain ⟨acc, mode⟩ := u
    cases mode <;> rfl
  | cons b bytes ih =>
    obtain ⟨acc, mode⟩ := u
    cases mode <;> exact ih _

/-- The host command CRC_FEED of one byte (R121). -/
def feedCommand (b : Byte) : Turn := .command ⟨0x41, b, 0, 0, []⟩

theorem takeTurn_feedCommand (b : Byte) (s : State) :
    takeTurn (feedCommand b) s = .next { s with crcu := s.crcu.feed b, response := some ⟨.ok, .none⟩ } :=
  (takeTurn_of_instr rfl rfl).trans (exec_crcFeed b s)

theorem runTurns_feedCommands (s : State) (b : Byte) (bytes : List Byte) (rest : List Turn) :
    runTurns s ((b :: bytes).map feedCommand) rest =
      .next { s with agenda := rest, crcu := s.crcu.feedAll (b :: bytes), response := some ⟨.ok, .none⟩ } := by
  induction bytes generalizing s b with
  | nil => exact (runTurns_cons (takeTurn_feedCommand b _) rfl).trans (runTurns_nil _ _)
  | cons b' bytes ih => exact (runTurns_cons (takeTurn_feedCommand b _) rfl).trans (ih _ _)

end Sys2Proof.Machine

namespace Sys2Proof.Proofs
open Sys2Proof.Machine

/-- Settles O7, because a byte step is injective in the byte and in the running value. -/
theorem crcCcittCatchesOneWrongByte : Obligations.CrcCcittCatchesOneWrongByte :=
  fun c before after _ _ h => crc16Ccitt_ne_of_one_byte c before after h

/-- Settles O9, by induction on the stream. -/
theorem crcUnitComputesTheStreamCrc : Obligations.CrcUnitComputesTheStreamCrc := by
  intro s bytes rest nonempty
  obtain ⟨b, bytes, rfl⟩ := List.exists_cons_of_ne_nil nonempty
  exact (runTurns_feedCommands s b bytes rest).trans (by rw [Crcu.feedAll_eq] <;> rfl)

end Sys2Proof.Proofs
end

section
/-! The receive ring as a FIFO (R72, R73, D4): the bytes that wait stand at the ring positions after the read offset, and
how many they are is fixed by the two offsets. The transmit pop of R76. -/
namespace Sys2Proof.Machine

/-! ## Positions of a ring -/

/-- Fewer than `n` steps along a ring of `n` positions reach different positions. -/
theorem ring_step_injective {n start i j : Nat} (hi : i < n) (hj : j < n)
    (h : (start + i) % n = (start + j) % n) : i = j :=
  (Nat.ModEq.add_left_cancel' start h).eq_of_lt_of_lt hi hj

section
variable {c : Config} {u : UnitId} {ch : Channel}

theorem Channel.Wf.pos (h : ch.Wf c u) : 0 < c.rxqCap := Nat.zero_lt_of_lt h.read

theorem Channel.Wf.waiting_lt (h : ch.Wf c u) : ch.waiting c < c.rxqCap := Nat.mod_lt _ h.pos

/-- From the read offset, the waiting bytes reach to the write offset. -/
theorem Channel.Wf.read_add_waiting (h : ch.Wf c u) : (ch.readOffset + ch.waiting c) % c.rxqCap = ch.writeOffset := by
  have read := h.read
  have whole : ch.readOffset + (ch.writeOffset + c.rxqCap - ch.readOffset) = ch.writeOffset + c.rxqCap := by omega
  rw [Channel.waiting, Nat.add_mod_mod, whole, Nat.add_mod_right, Nat.mod_eq_of_lt h.write]

theorem Channel.Wf.waiting_eq (h : ch.Wf c u) {k : Nat} (lt : k < c.rxqCap)
    (reach : (ch.readOffset + k) % c.rxqCap = ch.writeOffset) : ch.waiting c = k :=
  ring_step_injective h.waiting_lt lt (h.read_add_waiting.trans reach.symm)

theorem Channel.Wf.waiting_eq_zero_iff (h : ch.Wf c u) : ch.waiting c = 0 ↔ ch.readOffset = ch.writeOffset := by
  constructor
  · intro zero
    have reach := h.read_add_waiting
    rwa [zero, Nat.add_zero, Nat.mod_eq_of_lt h.read] at reach
  · intro same
    exact h.waiting_eq h.pos (by rw [Nat.add_zero, Nat.mod_eq_of_lt h.read, same])

/-! ## The waiting bytes -/

/-- The `i`-th byte that waits (R73). -/
def Channel.waitingByte (c : Config) (ch : Channel) (i : Nat) : Byte :=
  ch.rxBuf.getD ((ch.readOffset + i) % c.rxqCap) 0

theorem Channel.pending_eq (c : Config) (ch : Channel) :
    ch.pending c = (List.range (ch.waiting c)).map (ch.waitingByte c) := rfl

@[simp] theorem Channel.pending_length (c : Config) (ch : Channel) : (ch.pending c).length = ch.waiting c := by
  rw [Channel.pending_eq, List.length_map, List.length_range]

theorem Channel.Wf.pending_eq_nil_iff (h : ch.Wf c u) : ch.pending c = [] ↔ ch.readOffset = ch.writeOffset := by
  rw [← List.length_eq_zero_iff, Channel.pending_length, h.waiting_eq_zero_iff]

theorem Channel.Wf.rxHead_eq (h : ch.Wf c u) : ch.rxHead = (ch.pending c).head? := by
  by_cases empty : ch.readOffset = ch.writeOffset
  · rw [Channel.rxHead_of_empty empty, h.pending_eq_nil_iff.mpr empty, List.head?_nil]
  · obtain ⟨k, hk⟩ := Nat.exists_eq_succ_of_ne_zero (mt h.waiting_eq_zero_iff.mp empty)
    have inRing : ch.readOffset < ch.rxBuf.length := h.ring.symm ▸ h.read
    rw [Channel.rxHead, if_neg empty, Channel.pending_eq, hk, List.range_succ_eq_map, List.map_cons, List.head?_cons,
      Channel.waitingByte, Nat.add_zero, Nat.mod_eq_of_lt h.read, List.getD_eq_getElem _ _ inRing,
      List.getElem?_eq_getElem inRing]

/-- A consume steps over the head (R73). -/
theorem Channel.Wf.consume_pending (h : ch.Wf c u) (nonempty : ch.readOffset ≠ ch.writeOffset) :
    (ch.consume c).pending c = (ch.pending c).tail := by
  obtain ⟨k, hk⟩ := Nat.exists_eq_succ_of_ne_zero (mt h.waiting_eq_zero_iff.mp nonempty)
  have shift (i : Nat) : ((ch.consume c).readOffset + i) % c.rxqCap = (ch.readOffset + (i + 1)) % c.rxqCap := by
    rw [Channel.consume_readOffset, Nat.mod_add_mod, Nat.add_assoc, Nat.add_comm 1]
  have left : (ch.consume c).waiting c = k := by
    refine h.consume.waiting_eq (by have := h.waiting_lt; omega) ?_
    rw [shift, ← Nat.succ_eq_add_one, ← hk, h.read_add_waiting, Channel.consume_writeOffset]
  rw [Channel.pending_eq, Channel.pending_eq, left, hk, List.range_succ_eq_map, List.map_cons, List.tail_cons,
    List.map_map]
  refine List.map_congr_left fun i _ => ?_
  rw [Function.comp_apply, Channel.waitingByte, Channel.waitingByte, shift, Channel.consume_rxBuf]

/-- The ring is full when one position is left free (D4). -/
theorem Channel.Wf.full_iff (h : ch.Wf c u) :
    (ch.writeOffset + 1) % c.rxqCap = ch.readOffset ↔ ch.waiting c + 1 = c.rxqCap := by
  have pos := h.pos
  have lt := h.waiting_lt
  rw [← h.read_add_waiting, Nat.mod_add_mod, Nat.add_assoc]
  constructor
  · intro same
    by_contra room
    have inRing : ch.waiting c + 1 < c.rxqCap := by omega
    have stays : (ch.readOffset + 0) % c.rxqCap = ch.readOffset := Nat.mod_eq_of_lt h.read
    exact Nat.succ_ne_zero _ (ring_step_injective inRing pos (same.trans stays.symm))
  · intro full
    rw [full, Nat.add_mod_right, Nat.mod_eq_of_lt h.read]

/-- A push to a ring with a free position appends (R72). -/
theorem Channel.Wf.rxPush_pending (h : ch.Wf c u) (b : Byte) (room : ch.waiting c + 1 < c.rxqCap) :
    (ch.rxPush c b).pending c = ch.pending c ++ [b] := by
  have notFull : (ch.writeOffset + 1) % c.rxqCap ≠ ch.readOffset := mt h.full_iff.mp (by omega)
  have inRing : ch.writeOffset < ch.rxBuf.length := h.ring.symm ▸ h.write
  have more : (ch.rxPush c b).waiting c = ch.waiting c + 1 := by
    refine (h.rxPush b).waiting_eq room ?_
    rw [Channel.rxPush_of_room b notFull, ← Nat.add_assoc, ← Nat.mod_add_mod, h.read_add_waiting]
  have old : ∀ i ∈ List.range (ch.waiting c), (ch.rxPush c b).waitingByte c i = ch.waitingByte c i := by
    intro i hi
    have before : i < ch.waiting c := List.mem_range.mp hi
    have elsewhere : ch.writeOffset ≠ (ch.readOffset + i) % c.rxqCap := by
      rw [← h.read_add_waiting]
      exact fun same => before.ne' (ring_step_injective h.waiting_lt (before.trans h.waiting_lt) same)
    rw [Channel.rxPush_of_room b notFull, Channel.waitingByte, Channel.waitingByte, List.getD_eq_getElem?_getD,
      List.getD_eq_getElem?_getD, List.getElem?_set_ne elsewhere]
  have new : (ch.rxPush c b).waitingByte c (ch.waiting c) = b := by
    rw [Channel.rxPush_of_room b notFull, Channel.waitingByte, h.read_add_waiting, List.getD_eq_getElem?_getD,
      List.getElem?_set_self inRing, Option.getD_some]
  rw [Channel.pending_eq, more, List.range_succ, List.map_append, List.map_congr_left old, List.map_singleton, new,
    Channel.pending_eq]

/-- A push to a full ring drops the byte (R72). -/
theorem Channel.Wf.rxPush_full (h : ch.Wf c u) (b : Byte) (full : ch.waiting c + 1 = c.rxqCap) :
    ch.rxPush c b = { ch with rxOverflow := true } := Channel.rxPush_of_full b (h.full_iff.mpr full)

end

/-! ## Transmit pop -/

/-- The channel without its head byte to transmit; a channel with none stays as it is (R76). -/
def Channel.txDrop (ch : Channel) : Channel := { ch with txq := ch.txq.tail }

section
variable {s : State} {u : UnitId}

theorem takeTurn_txPop_of_head {b : Byte} {q : List Byte} (h : (s.chanOf u).txq = b :: q) :
    takeTurn (.txPop u) s = .next ((s.setChan u { s.chanOf u with txq := q }).setWire (some (u, b))) := by
  rw [takeTurn_of_none rfl, plainTurn, popByte, Channel.txPop, h]

theorem takeTurn_txPop_of_empty (h : (s.chanOf u).txq = []) : takeTurn (.txPop u) s = .next s := by
  rw [takeTurn_of_none rfl, plainTurn, popByte, Channel.txPop, h]

end

end Sys2Proof.Machine

namespace Sys2Proof.Proofs
open Sys2Proof.Machine

/-- Settles O49: the ring positions give the FIFO; a push turn is a push by evaluation. -/
theorem receiveRingIsAFifo : Obligations.ReceiveRingIsAFifo := by
  refine ⟨fun c u ch b legal h => ⟨?bounded, h.rxHead_eq, fun nonempty => ?consume, rfl, rfl, rfl, fun room => ?push,
    fun full => ?dropped, ch.rxPush_readOffset c b, ch.rxPush_txq c b, ch.rxPush_evq c b⟩,
    fun s b => ⟨rfl, rfl, rfl⟩⟩
  case bounded =>
    have := h.waiting_lt
    rw [Channel.pending_length]
    omega
  case consume => exact h.consume_pending (mt h.pending_eq_nil_iff.mpr nonempty)
  case push =>
    rw [Channel.pending_length] at room
    have notFull : (ch.writeOffset + 1) % c.rxqCap ≠ ch.readOffset := mt h.full_iff.mp (by omega)
    exact ⟨h.rxPush_pending b (by omega), by rw [Channel.rxPush_of_room b notFull]⟩
  case dropped =>
    have pos := h.pos
    rw [Channel.pending_length] at full
    exact h.rxPush_full b (by omega)

/-- Settles O50, one case per unit and queue. -/
theorem transmitPopTakesTheHeadByte : Obligations.TransmitPopTakesTheHeadByte :=
  fun _ => ⟨fun _ _ => takeTurn_txPop_of_head (u := .fe), fun _ _ => takeTurn_txPop_of_head (u := .xr),
    fun _ _ => takeTurn_txPop_of_head (u := .xt), takeTurn_txPop_of_empty (u := .fe),
    takeTurn_txPop_of_empty (u := .xr), takeTurn_txPop_of_empty (u := .xt)⟩

end Sys2Proof.Proofs
end

section
/-!
The block as four units side by side (R354, R148, D1): what a turn does to a unit is a function of the unit, the
parameters and, for a retried tick, its pending count. One function per unit says it (`Fe.after`, `Xr.after`, `Xt.after`,
`Crcu.after`); `takeTurn_eq` ties them to the block, so that a claim about every turn is a claim about these functions.
-/
namespace Sys2Proof.Machine

/-! ## Channels and pending ticks -/

/-- The channel without its head record; a channel with none stays as it is (R77). -/
def Channel.evDrop (ch : Channel) : Channel := { ch with evq := ch.evq.tail }

theorem popByte_eq (s : State) (u : UnitId) : ∃ w, popByte s u = (s.setChan u (s.chanOf u).txDrop).setWire w := by
  cases h : (s.chanOf u).txq with
  | nil =>
    refine ⟨s.wire, ?_⟩
    have same : (s.chanOf u).txDrop = s.chanOf u := by rw [Channel.txDrop, h, List.tail_nil, ← h]
    rw [popByte, Channel.txPop, h, same]
    cases u <;> rfl
  | cons b q =>
    refine ⟨some (u, b), ?_⟩
    rw [popByte, Channel.txPop, h, Channel.txDrop, h]
    rfl

/-- The pending ticks of unit `u` after a turn, when a tick of it would be held or not (R64, log 8). -/
def pendingAfter (held : Bool) (u : UnitId) (n : Nat) : Turn → Nat
  | .tick v => if v = u ∧ held = true then n + 1 else n
  | .retryTick v => if v = u ∧ held = false then n - 1 else n
  | .reset => 0
  | _ => n

/-! ## FE -/

/-- The rule of a type byte in WAIT_TYPE (R162): the token's, or the default one. -/
def Fe.typeByte (c : Config) (f : Fe) (b : Byte) : Option Fe :=
  if b = 0xA1 then f.ackRule c
  else if b = 0xA2 then f.nakRule c
  else if b = 0xA3 then f.ackAbortRule c
  else if b = 0xA4 then some (f.openPacket 0xA4)
  else if b = 0xA5 then some (f.openPacket 0xA5)
  else if b = 0xA6 then f.pingRule c
  else if b = 0xA7 then some { f with rxState := .waitStart }
  else some (f.otherTypeByte b)

/-- The rule of an FE byte step in every state (R160). -/
def Fe.byteRule (c : Config) (f : Fe) (b : Byte) : Option Fe :=
  if f.rxState = .waitType then f.typeByte c b else f.dataByte c b

/-- FE after a byte step; one without a head byte, or held, leaves it (R73, R78). -/
def Fe.byteStep (c : Config) (f : Fe) : Fe :=
  match f.chan.rxHead with
  | none => f
  | some b => match f.byteRule c b with
    | none => f
    | some g => g.consume c

/-- FE after a tick; a held one leaves it (R184). -/
def Fe.ticked (c : Config) (f : Fe) : Fe := (f.tick c).getD f

/-- FE after the host command `i`. -/
def Fe.obey (c : Config) (f : Fe) : Instr → Fe
  | .regWrite reg v =>
    if reg = 0 ∧ mpsLegal c v = true ∧ f.rxState = .waitStart then { f with mps := v.setWidth 16 } else f
  | .evPop unit => if unitOf unit = some .fe then { f with chan := f.chan.evDrop } else f
  | .feSend type len bytes =>
    if IsPacketType type ∧ len ≤ f.mps ∧ bytes.length = len.toNat ∧ f.isBackToBackWrite = false ∧
        (framePacket type bytes).length ≤ f.chan.txRoom c then
      { f.txPush (framePacket type bytes) with
        txCopy := framePacket type bytes, txCopyType := type, txRetry := 0, isBackToBackWrite := true
        timer := c.feAckTimeout }
    else f
  | .feTake => { f with dlvValid := false }
  | .feAbortDataPhase => { f with isAckAbortNeeded := true }
  | .feClrOvf => { f with chan := f.chan.clearOverflow }
  | _ => f

/-- FE after a turn. -/
def Fe.after (c : Config) (pending : Nat) (f : Fe) : Turn → Fe
  | .command k => match decode (.command k) with
    | .instr i => f.obey c i
    | .reject _ => f
  | .rxPush .fe b => { f with chan := f.chan.rxPush c b }
  | .txPop .fe => { f with chan := f.chan.txDrop }
  | .byteStep .fe => f.byteStep c
  | .tick .fe => f.ticked c
  | .retryTick .fe => if pending = 0 then f else f.ticked c
  | .reset => Fe.reset c
  | _ => f

/-! ## XR -/

/-- The rule of a byte in WAIT_HEADER (R226): the token's, or noise. -/
def Xr.headerByte (c : Config) (x : Xr) (b : Byte) : Option Xr :=
  if b = 0x01 then some (x.openFrame false)
  else if b = 0x02 then some (x.openFrame true)
  else if b = 0x04 then x.eotRule c
  else if b = 0x18 then x.canRule c
  else some x

/-- The rule of an XR byte step in every state (R220). -/
def Xr.byteRule (c : Config) (x : Xr) (b : Byte) : Option Xr :=
  if x.state = .waitHeader then x.headerByte c b else x.dataByte c b

/-- XR after a byte step; one without a head byte, or held, leaves it (R73, R78). -/
def Xr.byteStep (c : Config) (x : Xr) : Xr :=
  match x.chan.rxHead with
  | none => x
  | some b => match x.byteRule c b with
    | none => x
    | some y => (y.settle c).consume c

/-- XR after a tick; a held one leaves it (R239). -/
def Xr.ticked (c : Config) (x : Xr) : Xr := (x.tick c).getD x

/-- XR after the host command `i`. -/
def Xr.obey (c : Config) (x : Xr) : Instr → Xr
  | .evPop unit => if unitOf unit = some .xr then { x with chan := x.chan.evDrop } else x
  | .xrStart mode =>
    if mode.toNat ≤ 1 ∧ x.state.active = false ∧ 1 ≤ x.chan.txRoom c then
      (x.restart c (if mode = 1 then .crc else .checksum)).txPush [if mode = 1 then 0x43 else 0x15]
    else x
  | .xrCancel =>
    if x.state.active = true ∧ 3 ≤ x.chan.txRoom c then { x.txPush canThree with state := .cancelled, timer := 0 } else x
  | .xrClrOvf => { x with chan := x.chan.clearOverflow }
  | _ => x

/-- XR after a turn. -/
def Xr.after (c : Config) (pending : Nat) (x : Xr) : Turn → Xr
  | .command k => match decode (.command k) with
    | .instr i => x.obey c i
    | .reject _ => x
  | .rxPush .xr b => { x with chan := x.chan.rxPush c b }
  | .txPop .xr => { x with chan := x.chan.txDrop }
  | .byteStep .xr => x.byteStep c
  | .tick .xr => x.ticked c
  | .retryTick .xr => if pending = 0 then x else x.ticked c
  | .reset => Xr.reset c
  | _ => x

/-! ## XT -/

/-- The rule of an XT byte step in every state (R270): the token's, in the states that read it, or the default one. -/
def Xt.byteRule (c : Config) (x : Xt) (b : Byte) : Option Xt :=
  if x.state = .awaitMode ∧ b = 0x43 then x.selectMode .crc c
  else if x.state = .awaitMode ∧ b = 0x15 then x.selectMode .checksum c
  else if x.state.awaiting = true ∧ b = 0x06 then x.ackRule c
  else if x.state.awaiting = true ∧ b = 0x15 then x.nakRule c
  else if x.state.active = true ∧ b = 0x18 then x.canRule c
  else some (x.discardByte c)

/-- XT after a byte step; one without a head byte, or held, leaves it (R73, R78). -/
def Xt.byteStep (c : Config) (x : Xt) : Xt :=
  match x.chan.rxHead with
  | none => x
  | some b => match x.byteRule c b with
    | none => x
    | some y => y.consume c

/-- XT after a tick; a held one leaves it (R293). -/
def Xt.ticked (c : Config) (x : Xt) : Xt := (x.tick c).getD x

/-- XT after an emission step; one that is not enabled leaves it (R281). -/
def Xt.emitted (c : Config) (x : Xt) : Xt := (x.emit c).getD x

/-- XT after the host command `i`. -/
def Xt.obey (c : Config) (x : Xt) : Instr → Xt
  | .evPop unit => if unitOf unit = some .xt then { x with chan := x.chan.evDrop } else x
  | .xtStart => if x.state.active = false then x.restart else x
  | .xtSendFrame n bytes =>
    if x.state = .waitFrame ∧ 1 ≤ n.toNat ∧ n.toNat ≤ x.mode.frameSize ∧ bytes.length = n.toNat then
      { x with
        buf := x.loadBuf bytes, dataLen := n.setWidth 11, short := decide (n.toNat < x.mode.frameSize)
        sent := 0, tidx := false, retry := 0, state := .sendHeader }
    else x
  | .xtOver =>
    if x.state = .waitFrame ∧ 1 ≤ x.chan.txRoom c then
      { x.txPush [0x04] with retry := 0, state := .awaitEotAck, timer := c.xtAckTimeout }
    else x
  | .xtCancel =>
    if x.state.active = true ∧ 3 ≤ x.chan.txRoom c then { x.txPush canThree with state := .cancelled, timer := 0 } else x
  | .xtClrOvf => { x with chan := x.chan.clearOverflow }
  | _ => x

/-- XT after a turn. -/
def Xt.after (c : Config) (pending : Nat) (x : Xt) : Turn → Xt
  | .command k => match decode (.command k) with
    | .instr i => x.obey c i
    | .reject _ => x
  | .rxPush .xt b => { x with chan := x.chan.rxPush c b }
  | .txPop .xt => { x with chan := x.chan.txDrop }
  | .byteStep .xt => x.byteStep c
  | .tick .xt => x.ticked c
  | .retryTick .xt => if pending = 0 then x else x.ticked c
  | .emit => x.emitted c
  | .reset => Xt.reset c
  | _ => x

/-! ## CRCU -/

/-- The CRC unit after the host command `i` (R145, R146). -/
def Crcu.obey (v : Crcu) : Instr → Crcu
  | .crcInit mode => match crcModeOf mode with
    | none => v
    | some m => ⟨m.init, m⟩
  | .crcFeed b => v.feed b
  | _ => v

/-- The CRC unit after a turn. -/
def Crcu.after (v : Crcu) : Turn → Crcu
  | .command k => match decode (.command k) with
    | .instr i => v.obey i
    | .reject _ => v
  | .reset => Crcu.reset
  | _ => v

/-! ## Byte steps on the block

The steps of `State.feByte`, `State.xrByte` and `State.xtByte` depend on what the rule answers the head byte, not on how
it is written; so each unit's byte step is the one step of its `byteRule`. -/

section
variable {s : State} {b : Byte}

theorem next_feByte_congr {rule rule' : Config → Fe → Byte → Option Fe} (hb : s.fe.chan.rxHead = some b)
    (h : rule s.cfg s.fe b = rule' s.cfg s.fe b) :
    (.next (s.feByte rule) : Host.Outcome State Fault Refusal) = .next (s.feByte rule') := by
  simp only [State.feByte, hb, h]

theorem next_xrByte_congr {rule rule' : Config → Xr → Byte → Option Xr} (hb : s.xr.chan.rxHead = some b)
    (h : rule s.cfg s.xr b = rule' s.cfg s.xr b) :
    (.next (s.xrByte rule) : Host.Outcome State Fault Refusal) = .next (s.xrByte rule') := by
  simp only [State.xrByte, hb, h]

theorem next_xtByte_congr {rule rule' : Config → Xt → Byte → Option Xt} (hb : s.xt.chan.rxHead = some b)
    (h : rule s.cfg s.xt b = rule' s.cfg s.xt b) :
    (.next (s.xtByte rule) : Host.Outcome State Fault Refusal) = .next (s.xtByte rule') := by
  simp only [State.xtByte, hb, h]

/-- A type byte that is a token: its step is FE's byte step. -/
theorem takeTurn_fe_token {i : Instr} {rule : Config → Fe → Option Fe} (hs : s.fe.rxState = .waitType)
    (hb : s.fe.chan.rxHead = some b) (hd : decodeKftHeader 0x5A b = .instr i)
    (hi : exec i s = .next (s.feToken b rule)) (hr : s.fe.typeByte s.cfg b = rule s.cfg s.fe) :
    takeTurn (.byteStep .fe) s = .next (s.feByte Fe.byteRule) := by
  rw [takeTurn_typeByte_instr hs hb hd, hi, State.feToken_enabled rule hs hb]
  exact next_feByte_congr hb (hr.symm.trans (if_pos hs).symm)

theorem typeByte_of_reject {c : Config} {f : Fe} {r : Reject} (h : decodeKftHeader 0x5A b = .reject r) :
    f.typeByte c b = some (f.otherTypeByte b) := by
  have notToken {t : Byte} {i : Instr} (ht : decodeKftHeader 0x5A t = .instr i) : b ≠ t := by
    rintro rfl
    cases ht.symm.trans h
  rw [Fe.typeByte, if_neg (notToken (t := 0xA1) rfl), if_neg (notToken (t := 0xA2) rfl),
    if_neg (notToken (t := 0xA3) rfl), if_neg (notToken (t := 0xA4) rfl), if_neg (notToken (t := 0xA5) rfl),
    if_neg (notToken (t := 0xA6) rfl), if_neg (notToken (t := 0xA7) rfl)]

theorem takeTurn_fe_byteStep (s : State) : takeTurn (.byteStep .fe) s = .next (s.feByte Fe.byteRule) := by
  by_cases hs : s.fe.rxState = .waitType
  case neg =>
    rw [takeTurn_of_none (fetch_dataByte hs), plainTurn]
    cases hb : s.fe.chan.rxHead with
    | none => simp only [State.feByte, hb]
    | some b => exact next_feByte_congr hb (if_neg hs).symm
  case pos =>
    cases hb : s.fe.chan.rxHead with
    | none =>
      rw [takeTurn_of_none (by rw [fetch, if_pos hs, hb, Option.map_none]), plainTurn]
      simp only [State.feByte, hb]
    | some b =>
      cases hd : decodeKftHeader 0x5A b with
      | reject r =>
        rw [takeTurn_of_reject (fetch_typeByte hs hb) hd, defaultRule]
        exact next_feByte_congr hb ((typeByte_of_reject hd).symm.trans (if_pos hs).symm)
      | instr i =>
        have isToken := hd
        simp only [decodeKftHeader, ne_eq, not_true_eq_false, if_false] at isToken
        split_ifs at isToken <;> cases isToken <;> subst_vars <;> exact takeTurn_fe_token hs hb hd rfl rfl

/-- A header byte that is a token: its step is XR's byte step. -/
theorem takeTurn_xr_token {i : Instr} {rule : Config → Xr → Option Xr} (hs : s.xr.state = .waitHeader)
    (hb : s.xr.chan.rxHead = some b) (hd : decodeXrHeader b = .instr i)
    (hi : exec i s = .next (s.xrToken b rule)) (hr : s.xr.headerByte s.cfg b = rule s.cfg s.xr) :
    takeTurn (.byteStep .xr) s = .next (s.xrByte Xr.byteRule) := by
  rw [takeTurn_xrHeader_instr hs hb hd, hi, State.xrToken_enabled rule hs hb]
  exact next_xrByte_congr hb (hr.symm.trans (if_pos hs).symm)

theorem headerByte_of_reject {c : Config} {x : Xr} {r : Reject} (h : decodeXrHeader b = .reject r) :
    x.headerByte c b = some x := by
  have notToken {t : Byte} {i : Instr} (ht : decodeXrHeader t = .instr i) : b ≠ t := by
    rintro rfl
    cases ht.symm.trans h
  rw [Xr.headerByte, if_neg (notToken (t := 0x01) rfl), if_neg (notToken (t := 0x02) rfl),
    if_neg (notToken (t := 0x04) rfl), if_neg (notToken (t := 0x18) rfl)]

theorem takeTurn_xr_byteStep (s : State) : takeTurn (.byteStep .xr) s = .next (s.xrByte Xr.byteRule) := by
  by_cases hs : s.xr.state = .waitHeader
  case neg =>
    rw [takeTurn_xrDataByte hs]
    cases hb : s.xr.chan.rxHead with
    | none => simp only [State.xrByte, hb]
    | some b => exact next_xrByte_congr hb (if_neg hs).symm
  case pos =>
    cases hb : s.xr.chan.rxHead with
    | none =>
      rw [takeTurn_of_none (by rw [fetch, if_pos hs, hb, Option.map_none]), plainTurn]
      simp only [State.xrByte, hb]
    | some b =>
      cases hd : decodeXrHeader b with
      | reject r =>
        rw [takeTurn_xrHeader_reject hs hb hd]
        exact next_xrByte_congr hb ((headerByte_of_reject hd).symm.trans (if_pos hs).symm)
      | instr i =>
        have isToken := hd
        simp only [decodeXrHeader] at isToken
        split_ifs at isToken <;> cases isToken <;> subst_vars <;> exact takeTurn_xr_token hs hb hd rfl rfl

/-! XT reads a byte in the space of its state; what no token of that space is, is discarded. -/

theorem Xt.byteRule_awaitMode {c : Config} {x : Xt} (hs : x.state = .awaitMode) :
    x.byteRule c b =
      if b = 0x43 then x.selectMode .crc c else if b = 0x15 then x.selectMode .checksum c
      else if b = 0x18 then x.canRule c else some (x.discardByte c) := by
  simp [Xt.byteRule, hs, XtState.awaiting, XtState.active]

theorem Xt.byteRule_awaiting {c : Config} {x : Xt} (hs : x.state.awaiting = true) :
    x.byteRule c b =
      if b = 0x06 then x.ackRule c else if b = 0x15 then x.nakRule c
      else if b = 0x18 then x.canRule c else some (x.discardByte c) := by
  have notMode : x.state ≠ .awaitMode := by
    rintro h
    rw [h] at hs
    cases hs
  have active : x.state.active = true := by
    by_contra h
    rw [XtState.not_awaiting_of_inactive (Bool.eq_false_iff.mpr h)] at hs
    cases hs
  simp [Xt.byteRule, hs, notMode, active]

theorem Xt.byteRule_busy {c : Config} {x : Xt} (active : x.state.active = true) (notMode : x.state ≠ .awaitMode)
    (hs : x.state.awaiting = false) :
    x.byteRule c b = if b = 0x18 then x.canRule c else some (x.discardByte c) := by
  simp [Xt.byteRule, hs, notMode, active]

theorem Xt.byteRule_inactive {c : Config} {x : Xt} (hs : x.state.active = false) :
    x.byteRule c b = some (x.discardByte c) := by
  have notMode : x.state ≠ .awaitMode := by
    rintro h
    rw [h] at hs
    cases hs
  simp [Xt.byteRule, hs, notMode, XtState.not_awaiting_of_inactive hs]

theorem xtSpace_busy {st : XtState} (active : st.active = true) (notMode : st ≠ .awaitMode)
    (h : st.awaiting = false) : xtSpace st b = some (.xtBusy b) := by
  cases st
  case awaitMode => exact absurd rfl notMode
  case idle | done | cancelled | failed => cases active
  case awaitAck | awaitEotAck => cases h
  all_goals rfl

/-- A byte that is a token in XT's state: its step is XT's byte step. -/
theorem takeTurn_xt_token {e : Encoding} {i : Instr} {here : XtState → Bool} {rule : Config → Xt → Option Xt}
    (hb : s.xt.chan.rxHead = some b) (space : xtSpace s.xt.state b = some e) (hd : decode e = .instr i)
    (hi : exec i s = .next (s.xtToken here b rule)) (hs : here s.xt.state = true)
    (hr : s.xt.byteRule s.cfg b = rule s.cfg s.xt) :
    takeTurn (.byteStep .xt) s = .next (s.xtByte Xt.byteRule) := by
  rw [takeTurn_xt_instr hb space hd, hi, State.xtToken_enabled rule hs hb]
  exact next_xtByte_congr hb hr.symm

theorem takeTurn_xt_byteStep (s : State) : takeTurn (.byteStep .xt) s = .next (s.xtByte Xt.byteRule) := by
  cases hb : s.xt.chan.rxHead with
  | none =>
    rw [takeTurn_of_none (by rw [fetch, hb, Option.bind_none]), plainTurn]
    simp only [State.xtByte, hb]
  | some b =>
    have discarded {e : Encoding} {r : Reject} (space : xtSpace s.xt.state b = some e) (hd : decode e = .reject r)
        (hr : s.xt.byteRule s.cfg b = some (s.xt.discardByte s.cfg)) :
        takeTurn (.byteStep .xt) s = .next (s.xtByte Xt.byteRule) :=
      (takeTurn_xt_reject hb space hd).trans (next_xtByte_congr hb hr.symm)
    by_cases active : s.xt.state.active = true
    case neg =>
      have inactive := Bool.eq_false_iff.mpr active
      exact (takeTurn_xt_inactive hb inactive).trans (next_xtByte_congr hb (Xt.byteRule_inactive inactive).symm)
    by_cases mode : s.xt.state = .awaitMode
    case pos =>
      have space : xtSpace s.xt.state b = some (.xtMode b) := by rw [mode]; rfl
      have here : (s.xt.state == .awaitMode) = true := by rw [mode]; rfl
      have rule := Xt.byteRule_awaitMode (b := b) (c := s.cfg) mode
      by_cases isC : b = 0x43
      · subst isC; exact takeTurn_xt_token hb space rfl rfl here rule
      by_cases isNak : b = 0x15
      · subst isNak; exact takeTurn_xt_token hb space rfl rfl here rule
      by_cases isCan : b = 0x18
      · subst isCan; exact takeTurn_xt_token hb space rfl rfl active rule
      rw [if_neg isC, if_neg isNak, if_neg isCan] at rule
      exact discarded space (decodeXtMode_ignored isC isNak isCan) rule
    by_cases awaiting : s.xt.state.awaiting = true
    case pos =>
      have space : xtSpace s.xt.state b = some (.xtReply b) := xtSpace_awaiting awaiting
      have rule := Xt.byteRule_awaiting (b := b) (c := s.cfg) awaiting
      by_cases isAck : b = 0x06
      · subst isAck; exact takeTurn_xt_token hb space rfl rfl awaiting rule
      by_cases isNak : b = 0x15
      · subst isNak; exact takeTurn_xt_token hb space rfl rfl awaiting rule
      by_cases isCan : b = 0x18
      · subst isCan; exact takeTurn_xt_token hb space rfl rfl active rule
      rw [if_neg isAck, if_neg isNak, if_neg isCan] at rule
      exact discarded space (decodeXtReply_ignored isAck isNak isCan) rule
    have notAwaiting := Bool.eq_false_iff.mpr awaiting
    have space : xtSpace s.xt.state b = some (.xtBusy b) := xtSpace_busy active mode notAwaiting
    have rule := Xt.byteRule_busy (b := b) (c := s.cfg) active mode notAwaiting
    by_cases isCan : b = 0x18
    · subst isCan; exact takeTurn_xt_token hb space rfl rfl active rule
    rw [if_neg isCan] at rule
    exact discarded space (decodeXtBusy_ignored isCan) rule

end

/-! ## A byte step, unit by unit -/

theorem State.feByte_eq (s : State) : s.feByte Fe.byteRule = s.setFe (s.fe.byteStep s.cfg) := by
  cases hb : s.fe.chan.rxHead with
  | none => simp only [State.feByte, Fe.byteStep, hb]; rfl
  | some b => cases hf : s.fe.byteRule s.cfg b with
    | none => simp only [State.feByte, Fe.byteStep, hb, hf]; rfl
    | some _ => simp only [State.feByte, Fe.byteStep, hb, hf]

theorem State.xrByte_eq (s : State) : s.xrByte Xr.byteRule = s.setXr (s.xr.byteStep s.cfg) := by
  cases hb : s.xr.chan.rxHead with
  | none => simp only [State.xrByte, Xr.byteStep, hb]; rfl
  | some b => cases hf : s.xr.byteRule s.cfg b with
    | none => simp only [State.xrByte, Xr.byteStep, hb, hf]; rfl
    | some _ => simp only [State.xrByte, Xr.byteStep, hb, hf]

theorem State.xtByte_eq (s : State) : s.xtByte Xt.byteRule = s.setXt (s.xt.byteStep s.cfg) := by
  cases hb : s.xt.chan.rxHead with
  | none => simp only [State.xtByte, Xt.byteStep, hb]; rfl
  | some b => cases hf : s.xt.byteRule s.cfg b with
    | none => simp only [State.xtByte, Xt.byteStep, hb, hf]; rfl
    | some _ => simp only [State.xtByte, Xt.byteStep, hb, hf]

theorem takeTurn_fe_eq (s : State) : takeTurn (.byteStep .fe) s = .next (s.setFe (s.fe.byteStep s.cfg)) := by
  rw [takeTurn_fe_byteStep, State.feByte_eq]

theorem takeTurn_xr_eq (s : State) : takeTurn (.byteStep .xr) s = .next (s.setXr (s.xr.byteStep s.cfg)) := by
  rw [takeTurn_xr_byteStep, State.xrByte_eq]

theorem takeTurn_xt_eq (s : State) : takeTurn (.byteStep .xt) s = .next (s.setXt (s.xt.byteStep s.cfg)) := by
  rw [takeTurn_xt_byteStep, State.xtByte_eq]

/-! ## Host commands, unit by unit -/

/-- The block after a host command, its answer aside. -/
def State.obey (s : State) (i : Instr) : State :=
  { s with
    fe := s.fe.obey s.cfg i, xr := s.xr.obey s.cfg i, xt := s.xt.obey s.cfg i, crcu := s.crcu.obey i }

/-- `i` does to each unit what the unit's `obey` says. -/
def ObeyedByUnits (s : State) (i : Instr) : Prop := ∃ r, exec i s = .next { s.obey i with response := r }

section
variable {s : State} {i : Instr}

theorem obeyed_of_units {f : Fe} {x : Xr} {y : Xt} {v : Crcu} {r : Option Response}
    (h : exec i s = .next { s with fe := f, xr := x, xt := y, crcu := v, response := r })
    (hf : s.fe.obey s.cfg i = f := by rfl) (hx : s.xr.obey s.cfg i = x := by rfl)
    (hy : s.xt.obey s.cfg i = y := by rfl) (hv : s.crcu.obey i = v := by rfl) : ObeyedByUnits s i := by
  subst hf hx hy hv
  exact ⟨r, h⟩

theorem obeyed_regRead (reg : Byte) : ObeyedByUnits s (.regRead reg) := by
  cases h : readReg s reg with
  | none => exact obeyed_of_units (exec_regRead_of_none h)
  | some v => exact obeyed_of_units (exec_regRead_of_some h)

theorem obeyed_regWrite (reg : Byte) (v : Word) : ObeyedByUnits s (.regWrite reg v) := by
  by_cases isMps : reg = 0
  case neg => exact obeyed_of_units (exec_regWrite_of_other isMps) (if_neg fun h => isMps h.1)
  subst isMps
  by_cases legal : mpsLegal s.cfg v = true
  case neg =>
    exact obeyed_of_units (exec_regWrite_of_illegal (Bool.eq_false_iff.mpr legal)) (if_neg fun h => legal h.2.1)
  have written := exec_regWrite_of_legal legal
  by_cases waits : s.fe.rxState = .waitStart
  case neg =>
    rw [if_pos waits] at written
    exact obeyed_of_units written (if_neg fun h => waits h.2.2)
  rw [if_neg (not_not.mpr waits), ← BitVec.setWidth_eq_extractLsb' (by decide)] at written
  exact obeyed_of_units written (if_pos ⟨rfl, legal, waits⟩)

theorem Channel.evDrop_of_empty {ch : Channel} (h : ch.evq = []) : ch.evDrop = ch := by
  rw [Channel.evDrop, h, List.tail_nil, ← h]

theorem Channel.evDrop_of_head {ch : Channel} {e : Event} {es : List Event} (h : ch.evq = e :: es) :
    ch.evDrop = { ch with evq := es } := by
  rw [Channel.evDrop, h, List.tail_cons]

theorem obeyed_evPop (unit : Byte) : ObeyedByUnits s (.evPop unit) := by
  have other {u v : UnitId} (h : unitOf unit = some u) (differ : u ≠ v) : ¬unitOf unit = some v :=
    fun h' => differ (Option.some.inj (h.symm.trans h'))
  cases h : unitOf unit with
  | none =>
    have noUnit (v : UnitId) : ¬unitOf unit = some v := by simp [h]
    exact obeyed_of_units (exec_evPop_of_no_unit h) (if_neg (noUnit .fe)) (if_neg (noUnit .xr)) (if_neg (noUnit .xt))
  | some u =>
    cases hq : (s.chanOf u).evq with
    | nil =>
      have same := Channel.evDrop_of_empty hq
      have answer := exec_evPop_of_empty h hq
      cases u with
      | fe =>
        exact obeyed_of_units answer ((if_pos h).trans (congrArg (fun ch => { s.fe with chan := ch }) same))
          (if_neg (other h (by decide))) (if_neg (other h (by decide)))
      | xr =>
        exact obeyed_of_units answer (if_neg (other h (by decide)))
          ((if_pos h).trans (congrArg (fun ch => { s.xr with chan := ch }) same)) (if_neg (other h (by decide)))
      | xt =>
        exact obeyed_of_units answer (if_neg (other h (by decide))) (if_neg (other h (by decide)))
          ((if_pos h).trans (congrArg (fun ch => { s.xt with chan := ch }) same))
    | cons e es =>
      have popped := Channel.evDrop_of_head hq
      have answer := exec_evPop_of_head h hq
      cases u with
      | fe =>
        exact obeyed_of_units answer ((if_pos h).trans (congrArg (fun ch => { s.fe with chan := ch }) popped))
          (if_neg (other h (by decide))) (if_neg (other h (by decide)))
      | xr =>
        exact obeyed_of_units answer (if_neg (other h (by decide)))
          ((if_pos h).trans (congrArg (fun ch => { s.xr with chan := ch }) popped)) (if_neg (other h (by decide)))
      | xt =>
        exact obeyed_of_units answer (if_neg (other h (by decide))) (if_neg (other h (by decide)))
          ((if_pos h).trans (congrArg (fun ch => { s.xt with chan := ch }) popped))

theorem obeyed_feSend (type : Byte) (len : Half) (bytes : List Byte) : ObeyedByUnits s (.feSend type len bytes) := by
  by_cases valid : IsPacketType type ∧ len ≤ s.fe.mps ∧ bytes.length = len.toNat
  case neg =>
    have invalid : ¬IsPacketType type ∨ s.fe.mps < len ∨ bytes.length ≠ len.toNat := by
      rw [← BitVec.not_le]
      tauto
    exact obeyed_of_units (exec_feSend_invalid invalid) (if_neg (by tauto))
  obtain ⟨ht, hm, hl⟩ := valid
  have sent := exec_feSend_of_valid ht hm hl
  by_cases owed : s.fe.isBackToBackWrite = true
  case pos =>
    rw [if_pos owed] at sent
    exact obeyed_of_units sent (if_neg fun h => ne_true_of_eq_false h.2.2.2.1 owed)
  by_cases full : s.fe.chan.txRoom s.cfg < (framePacket type bytes).length
  case pos =>
    rw [if_neg owed, if_pos full] at sent
    exact obeyed_of_units sent (if_neg fun h => Nat.not_le.mpr full h.2.2.2.2)
  rw [if_neg owed, if_neg full] at sent
  exact obeyed_of_units sent (if_pos ⟨ht, hm, hl, Bool.eq_false_iff.mpr owed, Nat.not_lt.mp full⟩)

theorem obeyed_feTake : ObeyedByUnits s .feTake := by
  cases h : s.fe.dlvValid with
  | false => exact obeyed_of_units (exec_feTake_empty h) (by show { s.fe with dlvValid := false } = s.fe; rw [← h])
  | true => exact obeyed_of_units (exec_feTake_full h)

theorem obeyed_xrStart (mode : Byte) : ObeyedByUnits s (.xrStart mode) := by
  by_cases legal : mode.toNat ≤ 1
  case neg =>
    exact obeyed_of_units (exec_xrStart_of_no_mode (checkModeOf_of_two_le (Nat.not_le.mp legal))) rfl
      (if_neg fun h => legal h.1)
  have started := exec_xrStart_of_legal (s := s) legal
  by_cases active : s.xr.state.active = true
  case pos =>
    rw [if_pos active] at started
    exact obeyed_of_units started rfl (if_neg fun h => ne_true_of_eq_false h.2.1 active)
  by_cases full : s.xr.chan.txRoom s.cfg < 1
  case pos =>
    rw [if_neg active, if_pos full] at started
    exact obeyed_of_units started rfl (if_neg fun h => Nat.not_le.mpr full h.2.2)
  rw [if_neg active, if_neg full] at started
  exact obeyed_of_units started rfl (if_pos ⟨legal, Bool.eq_false_iff.mpr active, Nat.not_lt.mp full⟩)

theorem obeyed_xrCancel : ObeyedByUnits s .xrCancel := by
  by_cases active : s.xr.state.active = true
  case neg => exact obeyed_of_units (exec_xrCancel_invalid (Bool.eq_false_iff.mpr active)) rfl (if_neg fun h => active h.1)
  by_cases room : 3 ≤ s.xr.chan.txRoom s.cfg
  case neg =>
    exact obeyed_of_units (exec_xrCancel_busy active (Nat.not_le.mp room)) rfl (if_neg fun h => room h.2)
  exact obeyed_of_units (exec_xrCancel_of_room active room) rfl (if_pos ⟨active, room⟩)

theorem obeyed_xtStart : ObeyedByUnits s .xtStart := by
  cases h : s.xt.state.active with
  | true => exact obeyed_of_units (exec_xtStart_busy h) rfl rfl (if_neg (ne_false_of_eq_true h))
  | false => exact obeyed_of_units (exec_xtStart_of_idle h) rfl rfl (if_pos h)

theorem obeyed_xtSendFrame (n : Half) (bytes : List Byte) : ObeyedByUnits s (.xtSendFrame n bytes) := by
  by_cases waits : s.xt.state = .waitFrame
  case neg =>
    have unchanged : s.xt.obey s.cfg (.xtSendFrame n bytes) = s.xt := if_neg fun h => waits h.1
    cases active : s.xt.state.active with
    | false => exact obeyed_of_units (exec_xtSendFrame_inactive active) rfl rfl unchanged
    | true => exact obeyed_of_units (exec_xtSendFrame_busy active waits) rfl rfl unchanged
  have loaded := exec_xtSendFrame_of_waitFrame (n := n) (bytes := bytes) waits
  by_cases bad : n.toNat < 1 ∨ s.xt.mode.frameSize < n.toNat ∨ bytes.length ≠ n.toNat
  case pos =>
    rw [if_pos bad] at loaded
    exact obeyed_of_units loaded rfl rfl (if_neg (by omega))
  rw [if_neg bad] at loaded
  exact obeyed_of_units loaded rfl rfl (if_pos ⟨waits, by omega⟩)

theorem obeyed_xtOver : ObeyedByUnits s .xtOver := by
  by_cases waits : s.xt.state = .waitFrame
  case neg =>
    have unchanged : s.xt.obey s.cfg .xtOver = s.xt := if_neg fun h => waits h.1
    cases active : s.xt.state.active with
    | false => exact obeyed_of_units (exec_xtOver_inactive active) rfl rfl unchanged
    | true => exact obeyed_of_units (exec_xtOver_busy active waits) rfl rfl unchanged
  have eot := exec_xtOver_of_waitFrame waits
  by_cases full : s.xt.chan.txRoom s.cfg < 1
  case pos =>
    rw [if_pos full] at eot
    exact obeyed_of_units eot rfl rfl (if_neg fun h => Nat.not_le.mpr full h.2)
  rw [if_neg full] at eot
  exact obeyed_of_units eot rfl rfl (if_pos ⟨waits, Nat.not_lt.mp full⟩)

theorem obeyed_xtCancel : ObeyedByUnits s .xtCancel := by
  by_cases active : s.xt.state.active = true
  case neg =>
    exact obeyed_of_units (exec_xtCancel_invalid (Bool.eq_false_iff.mpr active)) rfl rfl (if_neg fun h => active h.1)
  by_cases room : 3 ≤ s.xt.chan.txRoom s.cfg
  case neg =>
    exact obeyed_of_units (exec_xtCancel_busy active (Nat.not_le.mp room)) rfl rfl (if_neg fun h => room h.2)
  exact obeyed_of_units (exec_xtCancel_of_room active room) rfl rfl (if_pos ⟨active, room⟩)

theorem obeyed_crcInit (mode : Byte) : ObeyedByUnits s (.crcInit mode) := by
  cases h : crcModeOf mode with
  | none => exact obeyed_of_units (exec_crcInit_of_no_mode h s) rfl rfl rfl (by rw [Crcu.obey, h])
  | some m => exact obeyed_of_units (exec_crcInit_of_mode h s) rfl rfl rfl (by rw [Crcu.obey, h])

theorem obeyed_of_decode_command {k : Command} (h : decode (.command k) = .instr i) : ObeyedByUnits s i := by
  obtain ⟨-, rfl⟩ | ⟨-, rfl⟩ | ⟨-, rfl⟩ | ⟨-, rfl⟩ | ⟨-, rfl⟩ | ⟨-, rfl⟩ | ⟨-, rfl⟩ | ⟨-, rfl⟩ | ⟨-, rfl⟩ | ⟨-, rfl⟩ |
    ⟨-, rfl⟩ | ⟨-, rfl⟩ | ⟨-, rfl⟩ | ⟨-, rfl⟩ | ⟨-, rfl⟩ | ⟨-, rfl⟩ | ⟨-, rfl⟩ := decode_command_cases h
  · exact obeyed_regRead _
  · exact obeyed_regWrite _ _
  · exact obeyed_evPop _
  · exact obeyed_feSend _ _ _
  · exact obeyed_feTake
  · exact obeyed_of_units rfl
  · exact obeyed_of_units rfl
  · exact obeyed_xrStart _
  · exact obeyed_xrCancel
  · exact obeyed_of_units rfl
  · exact obeyed_xtStart
  · exact obeyed_xtSendFrame _ _
  · exact obeyed_xtOver
  · exact obeyed_xtCancel
  · exact obeyed_of_units rfl
  · exact obeyed_crcInit _
  · exact obeyed_of_units rfl

end

/-! ## Every turn, unit by unit -/

/-- The block after a turn, its two port outputs aside. -/
def State.after (s : State) (turn : Turn) : State :=
  { s with
    fe := s.fe.after s.cfg s.ticks.fe turn, xr := s.xr.after s.cfg s.ticks.xr turn
    xt := s.xt.after s.cfg s.ticks.xt turn, crcu := s.crcu.after turn
    ticks :=
      { fe := pendingAfter (s.fe.tick s.cfg).isNone .fe s.ticks.fe turn
        xr := pendingAfter (s.xr.tick s.cfg).isNone .xr s.ticks.xr turn
        xt := pendingAfter (s.xt.tick s.cfg).isNone .xt s.ticks.xt turn } }

theorem takeTurn_command_eq (k : Command) (s : State) :
    ∃ r, takeTurn (.command k) s = .next { s.after (.command k) with response := r } := by
  cases hd : decode (.command k) with
  | instr i =>
    obtain ⟨r, h⟩ := obeyed_of_decode_command (s := s) hd
    refine ⟨r, (takeTurn_of_instr rfl hd).trans (h.trans ?_)⟩
    simp only [State.after, State.obey, Fe.after, Xr.after, Xt.after, Crcu.after, hd, pendingAfter]
  | reject r =>
    refine ⟨some ⟨.invalid, .none⟩, (takeTurn_of_reject rfl hd).trans ?_⟩
    simp only [State.after, Fe.after, Xr.after, Xt.after, Crcu.after, hd, pendingAfter]
    rfl

theorem tickTurn_eq (s : State) (u : UnitId) : tickTurn s u = s.after (.tick u) := by
  cases u with
  | fe => cases h : s.fe.tick s.cfg <;> simp [tickTurn, tickUnit, h, State.after, Fe.after, Fe.ticked, pendingAfter] <;> rfl
  | xr => cases h : s.xr.tick s.cfg <;> simp [tickTurn, tickUnit, h, State.after, Xr.after, Xr.ticked, pendingAfter] <;> rfl
  | xt => cases h : s.xt.tick s.cfg <;> simp [tickTurn, tickUnit, h, State.after, Xt.after, Xt.ticked, pendingAfter] <;> rfl

theorem retryTickTurn_eq (s : State) (u : UnitId) : retryTickTurn s u = s.after (.retryTick u) := by
  by_cases none : s.ticks.get u = 0
  · rw [retryTickTurn, if_pos none]
    obtain ⟨cfg, fe, xr, xt, crcu, ⟨nFe, nXr, nXt⟩, agenda, response, wire⟩ := s
    cases u <;> simp only [PendingTicks.get] at none <;> subst none <;>
      simp [State.after, Fe.after, Xr.after, Xt.after, Crcu.after, pendingAfter]
  · rw [retryTickTurn, if_neg none]
    cases u with
    | fe =>
      simp only [PendingTicks.get] at none
      cases h : s.fe.tick s.cfg <;>
        simp [tickUnit, h, State.after, Fe.after, none, Fe.ticked, pendingAfter] <;> rfl
    | xr =>
      simp only [PendingTicks.get] at none
      cases h : s.xr.tick s.cfg <;>
        simp [tickUnit, h, State.after, Xr.after, none, Xr.ticked, pendingAfter] <;> rfl
    | xt =>
      simp only [PendingTicks.get] at none
      cases h : s.xt.tick s.cfg <;>
        simp [tickUnit, h, State.after, Xt.after, none, Xt.ticked, pendingAfter] <;> rfl

theorem emitTurn_eq (s : State) : emitTurn s = s.after .emit := by
  cases h : s.xt.emit s.cfg <;> simp only [emitTurn, h, State.after, Xt.after, Xt.emitted] <;> rfl

/-- Every turn does to each unit what the unit's `after` says; beside the units it writes the port outputs only. -/
theorem takeTurn_eq (turn : Turn) (s : State) :
    ∃ r w, takeTurn turn s = .next { s.after turn with response := r, wire := w } := by
  cases turn with
  | command k =>
    obtain ⟨r, h⟩ := takeTurn_command_eq k s
    exact ⟨r, s.wire, h⟩
  | rxPush u b => cases u <;> exact ⟨s.response, s.wire, rfl⟩
  | txPop u =>
    obtain ⟨w, h⟩ := popByte_eq s u
    refine ⟨s.response, w, (takeTurn_of_none rfl).trans (congrArg _ (Eq.trans (b := popByte s u) rfl (h.trans ?_)))⟩
    cases u <;> rfl
  | byteStep u =>
    refine ⟨s.response, s.wire, ?_⟩
    cases u with
    | fe => exact takeTurn_fe_eq s
    | xr => exact takeTurn_xr_eq s
    | xt => exact takeTurn_xt_eq s
  | tick u => exact ⟨s.response, s.wire, (takeTurn_of_none rfl).trans (congrArg _ (tickTurn_eq s u))⟩
  | retryTick u => exact ⟨s.response, s.wire, (takeTurn_of_none rfl).trans (congrArg _ (retryTickTurn_eq s u))⟩
  | emit => exact ⟨s.response, s.wire, (takeTurn_of_none rfl).trans (congrArg _ (emitTurn_eq s))⟩
  | reset => exact ⟨none, none, takeTurn_reset s⟩

theorem after_of_takeTurn {s t : State} {turn : Turn} (h : takeTurn turn s = .next t) :
    t = { s.after turn with response := t.response, wire := t.wire } := by
  obtain ⟨r, w, h'⟩ := takeTurn_eq turn s
  obtain rfl := Host.Outcome.next.inj (h.symm.trans h')
  rfl

/-! A pending count matters to a retried tick only. -/

theorem Fe.after_pending {c : Config} {f : Fe} {turn : Turn} (m n : Nat) (h : turn ≠ .retryTick .fe) :
    f.after c m turn = f.after c n turn := by
  cases turn with
  | retryTick u => cases u; exacts [absurd rfl h, rfl, rfl]
  | command _ | emit | reset => rfl
  | _ u => cases u <;> rfl

theorem Xr.after_pending {c : Config} {x : Xr} {turn : Turn} (m n : Nat) (h : turn ≠ .retryTick .xr) :
    x.after c m turn = x.after c n turn := by
  cases turn with
  | retryTick u => cases u; exacts [rfl, absurd rfl h, rfl]
  | command _ | emit | reset => rfl
  | _ u => cases u <;> rfl

theorem Xt.after_pending {c : Config} {x : Xt} {turn : Turn} (m n : Nat) (h : turn ≠ .retryTick .xt) :
    x.after c m turn = x.after c n turn := by
  cases turn with
  | retryTick u => cases u; exacts [rfl, rfl, absurd rfl h]
  | command _ | emit | reset => rfl
  | _ u => cases u <;> rfl

end Sys2Proof.Machine

namespace Sys2Proof.Proofs
open Sys2Proof.Machine

/-- Settles O53: each unit after a turn is a function of itself, the parameters and, for a retried tick, its pending
count. -/
theorem unitsShareNoState : Obligations.UnitsShareNoState := by
  intro s s' t t' turn cfg h h'
  rw [after_of_takeTurn h, after_of_takeTurn h']
  simp only [State.after, ← cfg]
  refine ⟨trivial, trivial, fun fe other => ?fe, fun xr other => ?xr, fun xt other => ?xt, fun fe n => ?feTicks,
    fun xr n => ?xrTicks, fun xt n => ?xtTicks, fun v => ?crcu⟩
  case fe => rw [← fe, Fe.after_pending _ _ other]
  case xr => rw [← xr, Xr.after_pending _ _ other]
  case xt => rw [← xt, Xt.after_pending _ _ other]
  case feTicks => rw [← fe, ← n]; exact ⟨rfl, rfl⟩
  case xrTicks => rw [← xr, ← n]; exact ⟨rfl, rfl⟩
  case xtTicks => rw [← xt, ← n]; exact ⟨rfl, rfl⟩
  case crcu => rw [← v]

end Sys2Proof.Proofs
end

section
/-!
The invariants of the channels and of FE (R24, R20, R49) are kept by every turn. The parts of `Fe.Inv` that depend on the
parser's state say nothing while FE scans for a packet (`Fe.Inv.scan`), so validation is proved for an FE that would be
safe if it were scanning: the state it is entered from has one byte too many.
-/
namespace Sys2Proof.Machine

/-! ## Channels -/

section
variable {c : Config} {u : UnitId} {ch : Channel}

theorem Channel.Wf.txDrop (h : ch.Wf c u) : ch.txDrop.Wf c u :=
  { h with txFits := (List.tail_sublist ch.txq).length_le.trans h.txFits }

theorem Channel.Wf.evDrop (h : ch.Wf c u) : ch.evDrop.Wf c u :=
  { h with
    evFits := (List.tail_sublist ch.evq).length_le.trans h.evFits
    records := fun e he => h.records e (List.mem_of_mem_tail he) }

end

/-! ## FE -/

theorem zero_le_byte (m : Byte) : 0 ≤ m := BitVec.le_def.mpr (Nat.zero_le _)

section
variable {c : Config} {f g : Fe}

theorem Fe.inv_reset (legal : c.Legal) : (Fe.reset c).Inv c where
  chan := Channel.wf_reset legal.1
  pktBufSize := List.length_replicate
  dlvSize := List.length_replicate
  copySize := Nat.zero_le _
  mpsLow := by show 1 ≤ (32 : Half).toNat; decide
  mpsHigh := legal.2.2.1
  openType := fun h => absurd rfl h
  fresh := fun _ => rfl
  lenLow := by rintro ⟨⟩
  lenOk := by rintro (h | h | h) <;> cases h
  counting := by rintro ⟨⟩
  ackDecided := rfl
  delivered := by rintro ⟨⟩
  timerOff := fun _ => rfl
  copyType := by rintro ⟨⟩
  retryOk := fun _ _ => zero_le_byte _

theorem Fe.Inv.withChan (h : f.Inv c) {ch : Channel} (hch : ch.Wf c .fe) : { f with chan := ch }.Inv c :=
  { h with chan := hch }

theorem Fe.Inv.consume (h : f.Inv c) : (f.consume c).Inv c := h.withChan h.chan.consume

theorem Fe.Inv.txPush (h : f.Inv c) {p : List Byte} (room : p.length ≤ f.chan.txRoom c) : (f.txPush p).Inv c :=
  h.withChan (h.chan.txPush room)

/-- Between packets the parser's working fields are free. -/
theorem Fe.Inv.between (h : f.Inv c) {st : RxState} (hst : st = .waitStart ∨ st = .waitType) :
    { f with rxState := st }.Inv c := by
  obtain rfl | rfl := hst
  all_goals exact { h with
    openType := by simp
    fresh := by simp
    lenLow := by simp
    lenOk := by simp
    counting := by simp }

theorem Fe.Inv.scan (h : f.Inv c) : { f with rxState := .waitStart }.Inv c := h.between (.inl rfl)

theorem Fe.Inv.scanWith (h : f.Inv c) (len crc count : Half) {buf : List Byte} (size : buf.length = c.mpsMax) :
    { f with rxState := .waitStart, pktLen := len, pktCrc := crc, pktCount := count, pktBuf := buf }.Inv c :=
  { h with
    pktBufSize := size
    openType := by simp
    fresh := by simp
    lenLow := by simp
    lenOk := by simp
    counting := by simp }

theorem Fe.Inv.packetType (h : f.Inv c) (start : f.rxState ≠ .waitStart) (type : f.rxState ≠ .waitType) :
    IsPacketType f.pktType := h.openType start type

/-! ### Validation and replies -/

theorem Fe.inv_nak (hg : f.nak c = some g) (h : { f with rxState := .waitStart }.Inv c) : g.Inv c := by
  obtain ⟨room, rfl⟩ := Fe.nak_cases hg
  exact h.txPush room

theorem Fe.inv_reply {t : Byte} (h : { f with rxState := .waitStart }.Inv c) (room : 2 ≤ f.chan.txRoom c) :
    { f.reply t with rxState := .waitStart }.Inv c :=
  { h with chan := h.chan.txPush room, ackDecided := rfl }

theorem Fe.inv_deliver {type : Byte} (h : { f with rxState := .waitStart }.Inv c) (ht : IsPacketType type)
    (len : f.pktLen.toNat ≤ c.mpsMax) : { f.deliver type with rxState := .waitStart }.Inv c :=
  { h with
    dlvSize := by
      have pkt : f.pktBuf.length = c.mpsMax := h.pktBufSize
      have dlv : f.dlvPayload.length = c.mpsMax := h.dlvSize
      simp [Fe.deliver, pkt, dlv, len]
    delivered := fun _ => ⟨ht, len⟩ }

theorem Fe.inv_validate (hg : f.validate c = some g) (h : { f with rxState := .waitStart }.Inv c)
    (len : f.pktLen.toNat ≤ c.mpsMax) : g.Inv c := by
  obtain bad | ⟨-, ⟨-, command⟩ | ⟨-, data⟩⟩ := Fe.validate_cases hg
  · exact Fe.inv_nak bad h
  · obtain ⟨room, -, rfl⟩ := Fe.acceptCommand_cases command
    have cleared : { { f with isAckAbortNeeded := false } with rxState := .waitStart }.Inv c := { h with }
    exact Fe.inv_deliver (Fe.inv_reply cleared room) (.inl rfl) len
  · obtain ⟨room, ⟨-, rfl⟩ | ⟨-, -, rfl⟩⟩ := Fe.acceptData_cases data
    · exact { Fe.inv_reply (t := 0xA3) h room with }
    · exact Fe.inv_deliver (Fe.inv_reply h room) (.inr rfl) len

/-! ### Byte rules -/

variable {b : Byte}

theorem Fe.Inv.waitStartByte (h : f.Inv c) : (f.waitStartByte b).Inv c := by
  unfold Fe.waitStartByte
  split
  · exact h.between (.inr rfl)
  · exact h

theorem Fe.Inv.lenLoByte (h : f.Inv c) (hs : f.rxState = .lenLo) : (f.lenLoByte b).Inv c :=
  { h with
    openType := fun _ _ => h.packetType (by simp [hs]) (by simp [hs])
    fresh := fun _ => h.fresh (.inl hs)
    lenLow := fun _ => by simp [Fe.lenLoByte, hi, le16]
    lenOk := by simp [Fe.lenLoByte]
    counting := by simp [Fe.lenLoByte] }

theorem Fe.Inv.lenHiByte (h : f.Inv c) (hs : f.rxState = .lenHi) (hg : f.lenHiByte c b = some g) : g.Inv c := by
  by_cases tooLong : f.mps < le16 (lo f.pktLen) b
  · rw [Fe.lenHiByte_too_long tooLong] at hg
    exact Fe.inv_nak hg (h.scanWith _ _ _ h.pktBufSize)
  · have fits := BitVec.not_lt.mp tooLong
    rw [Fe.lenHiByte_accepted fits] at hg
    obtain rfl := Option.some.inj hg
    exact { h with
      openType := fun _ _ => h.packetType (by simp [hs]) (by simp [hs])
      fresh := fun _ => h.fresh (.inr (.inl hs))
      lenLow := by simp
      lenOk := fun _ => fits
      counting := by simp }

theorem Fe.Inv.crcLoByte (h : f.Inv c) (hs : f.rxState = .crcLo) : (f.crcLoByte b).Inv c :=
  { h with
    openType := fun _ _ => h.packetType (by simp [hs]) (by simp [hs])
    fresh := fun _ => h.fresh (.inr (.inr (.inl hs)))
    lenLow := by simp [Fe.crcLoByte]
    lenOk := fun _ => h.lenOk (.inl hs)
    counting := by simp [Fe.crcLoByte] }

theorem Fe.Inv.pktLen_le (h : f.Inv c) (hs : f.rxState = .crcLo ∨ f.rxState = .crcHi ∨ f.rxState = .payload) :
    f.pktLen.toNat ≤ c.mpsMax := (BitVec.le_def.mp (h.lenOk hs)).trans h.mpsHigh

theorem Fe.Inv.crcHiByte (h : f.Inv c) (hs : f.rxState = .crcHi) (hg : f.crcHiByte c b = some g) : g.Inv c := by
  by_cases empty : f.pktLen = 0
  · rw [Fe.crcHiByte_last empty] at hg
    exact Fe.inv_validate hg (h.scanWith _ _ _ h.pktBufSize) (h.pktLen_le (.inr (.inl hs)))
  · rw [Fe.crcHiByte_of_payload empty] at hg
    obtain rfl := Option.some.inj hg
    exact { h with
      openType := fun _ _ => h.packetType (by simp [hs]) (by simp [hs])
      fresh := by simp
      lenLow := by simp
      lenOk := fun _ => h.lenOk (.inr (.inl hs))
      counting := fun _ => by
        have start : f.pktCount = 0 := h.fresh (.inr (.inr (.inr hs)))
        show f.pktCount < f.pktLen
        rw [start]
        bv_omega }

theorem Fe.Inv.payloadByte (h : f.Inv c) (hs : f.rxState = .payload) (hg : f.payloadByte c b = some g) : g.Inv c := by
  have size : (f.pktBuf.set f.pktCount.toNat b).length = c.mpsMax := List.length_set.trans h.pktBufSize
  by_cases last : f.pktCount + 1 = f.pktLen
  · rw [Fe.payloadByte_last last] at hg
    exact Fe.inv_validate hg (h.scanWith _ _ _ size) (h.pktLen_le (.inr (.inr hs)))
  · rw [Fe.payloadByte_more last] at hg
    obtain rfl := Option.some.inj hg
    exact { h with
      pktBufSize := size
      fresh := by simp [hs]
      counting := fun _ => by
        have before := h.counting hs
        show f.pktCount + 1 < f.pktLen
        bv_omega }

theorem Fe.Inv.dataByte (h : f.Inv c) (hg : f.dataByte c b = some g) : g.Inv c := by
  unfold Fe.dataByte at hg
  split at hg
  case h_1 hs => obtain rfl := Option.some.inj hg; exact h.waitStartByte
  case h_2 hs => cases hg
  case h_3 hs => obtain rfl := Option.some.inj hg; exact h.lenLoByte hs
  case h_4 hs => exact h.lenHiByte hs hg
  case h_5 hs => obtain rfl := Option.some.inj hg; exact h.crcLoByte hs
  case h_6 hs => exact h.crcHiByte hs hg
  case h_7 hs => exact h.payloadByte hs hg

/-! ### The KFT tokens -/

theorem Fe.Inv.endExchange (h : f.Inv c) {e : Event} (own : e.unit = .fe) (ok : e.FieldsOk)
    (hg : f.endExchange c e = some g) : g.Inv c := by
  obtain ⟨room, rfl⟩ := Fe.endExchange_cases hg
  exact { h with
    chan := h.chan.evPush room own ok
    timerOff := fun _ => rfl
    copyType := by rintro ⟨⟩
    retryOk := fun _ _ => zero_le_byte _ }

theorem Fe.Inv.acknowledged (h : f.Inv c) {outcome : Byte → Event} (own : ∀ t, (outcome t).unit = .fe)
    (ok : ∀ t, IsPacketType t → (outcome t).FieldsOk) (hg : f.acknowledged outcome c = some g) : g.Inv c := by
  cases owed : f.isBackToBackWrite with
  | false =>
    rw [Fe.acknowledged_idle owed] at hg
    obtain rfl := Option.some.inj hg
    exact h.scan
  | true =>
    rw [Fe.acknowledged_owed owed] at hg
    exact h.scan.endExchange (own _) (ok _ (h.copyType owed)) hg

theorem satInc_le {r m : Byte} (le : r ≤ m) (ne : r ≠ m) : satInc r ≤ m := by
  have notFull : r ≠ 255 := by
    rintro rfl
    exact ne (BitVec.le_antisymm le (BitVec.le_def.mpr (by have := m.isLt; simp; omega)))
  rw [satInc, if_neg notFull]
  bv_omega

theorem Fe.Inv.nakRule (h : f.Inv c) (hg : f.nakRule c = some g) : g.Inv c := by
  cases owed : f.isBackToBackWrite with
  | false =>
    rw [Fe.nakRule_idle owed] at hg
    obtain rfl := Option.some.inj hg
    exact h.scan
  | true =>
    by_cases spent : c.feTxMaxRetries = some f.txRetry
    · rw [Fe.nakRule_exhausted owed spent] at hg
      exact h.scan.endExchange (e := .feTxRetriesExhausted f.txCopyType) rfl (h.copyType owed) hg
    · by_cases room : f.txCopy.length ≤ f.chan.txRoom c
      · rw [Fe.nakRule_resend owed spent room] at hg
        obtain rfl := Option.some.inj hg
        exact { h.scan with
          chan := h.chan.txPush room
          timerOff := fun idle => absurd owed (ne_true_of_eq_false idle)
          retryOk := fun m hm => satInc_le (h.retryOk m hm) fun same => spent (by rw [hm, same]) }
      · rw [Fe.nakRule_held owed spent (Nat.not_le.mp room)] at hg
        cases hg

theorem Fe.Inv.openPacket (h : f.Inv c) {type : Byte} (ht : IsPacketType type) : (f.openPacket type).Inv c :=
  { h with
    openType := fun _ _ => ht
    fresh := fun _ => rfl
    lenLow := by simp [Fe.openPacket]
    lenOk := by simp [Fe.openPacket]
    counting := by simp [Fe.openPacket] }

theorem Fe.Inv.pingRule (h : f.Inv c) (hg : f.pingRule c = some g) : g.Inv c := by
  by_cases room : 10 ≤ f.chan.txRoom c
  · rw [Fe.pingRule_of_room room] at hg
    obtain rfl := Option.some.inj hg
    exact (h.txPush (p := pingResponse c) room).scan
  · rw [Fe.pingRule_held (Nat.not_le.mp room)] at hg
    cases hg

theorem Fe.Inv.otherTypeByte (h : f.Inv c) : (f.otherTypeByte b).Inv c := by
  unfold Fe.otherTypeByte
  split
  · exact h
  · exact h.scan

theorem Fe.Inv.typeByte (h : f.Inv c) (hg : f.typeByte c b = some g) : g.Inv c := by
  unfold Fe.typeByte at hg
  split_ifs at hg
  case pos => exact h.acknowledged (outcome := .feTxOk) (fun _ => rfl) (fun _ ht => ht) hg
  case pos => exact h.nakRule hg
  case pos => exact h.acknowledged (outcome := .feTxAborted) (fun _ => rfl) (fun _ ht => ht) hg
  case pos => obtain rfl := Option.some.inj hg; exact h.openPacket (.inl rfl)
  case pos => obtain rfl := Option.some.inj hg; exact h.openPacket (.inr rfl)
  case pos => exact h.pingRule hg
  case pos => obtain rfl := Option.some.inj hg; exact h.scan
  case neg => obtain rfl := Option.some.inj hg; exact h.otherTypeByte

theorem Fe.Inv.byteRule (h : f.Inv c) (hg : f.byteRule c b = some g) : g.Inv c := by
  unfold Fe.byteRule at hg
  split at hg
  · exact h.typeByte hg
  · exact h.dataByte hg

/-! ### Turns -/

theorem Fe.byteStep_cases (c : Config) (f : Fe) :
    f.byteStep c = f ∨ ∃ b g, f.chan.rxHead = some b ∧ f.byteRule c b = some g ∧ f.byteStep c = g.consume c := by
  unfold Fe.byteStep
  split
  · exact .inl rfl
  · split
    · exact .inl rfl
    · exact .inr ⟨_, _, ‹_›, ‹_›, rfl⟩

theorem Fe.Inv.byteStep (h : f.Inv c) : (f.byteStep c).Inv c := by
  obtain same | ⟨b, g, -, hg, taken⟩ := f.byteStep_cases c
  · rw [same]; exact h
  · rw [taken]; exact (h.byteRule hg).consume

theorem Fe.Inv.ticked (h : f.Inv c) : (f.ticked c).Inv c := by
  unfold Fe.ticked
  cases ht : f.tick c with
  | none => exact h
  | some g =>
    obtain ⟨-, rfl⟩ | ⟨on, -, rfl⟩ | ⟨last, room, rfl⟩ := Fe.tick_cases ht
    · exact h
    · exact { h with timerOff := fun idle => absurd (h.timerOff idle) on }
    · have owed : f.isBackToBackWrite = true := by
        by_contra idle
        rw [h.timerOff (Bool.eq_false_iff.mpr idle)] at last
        cases last
      exact { h with
        chan := h.chan.evPush room rfl (h.copyType owed)
        timerOff := fun _ => rfl
        copyType := by rintro ⟨⟩
        retryOk := fun _ _ => zero_le_byte _ }

theorem Fe.Inv.obey (h : f.Inv c) (i : Instr) : (f.obey c i).Inv c := by
  cases i with
  | regWrite reg v =>
    show Fe.Inv c (ite _ _ _)
    split_ifs with written
    · obtain ⟨-, legal, waits⟩ := written
      obtain ⟨-, nonzero, fits⟩ := mpsLegal_iff.mp legal
      rw [← BitVec.setWidth_eq_extractLsb' (by decide)] at nonzero fits
      exact { h with
        mpsLow := Nat.pos_of_ne_zero fun zero => nonzero (BitVec.eq_of_toNat_eq zero)
        mpsHigh := fits
        lenOk := by simp [waits] }
    · exact h
  | evPop unit =>
    show Fe.Inv c (ite _ _ _)
    split_ifs
    · exact h.withChan h.chan.evDrop
    · exact h
  | feSend type len bytes =>
    show Fe.Inv c (ite _ _ _)
    split_ifs with sent
    · obtain ⟨ht, hm, hl, -, room⟩ := sent
      exact { h.txPush room with
        copySize := by
          have fits : len.toNat ≤ c.mpsMax := (BitVec.le_def.mp hm).trans h.mpsHigh
          rw [framePacket_length, hl]
          omega
        timerOff := by rintro ⟨⟩
        copyType := fun _ => ht
        retryOk := fun _ _ => zero_le_byte _ }
    · exact h
  | feTake => exact { h with delivered := by rintro ⟨⟩ }
  | feAbortDataPhase => exact { h with }
  | feClrOvf => exact h.withChan h.chan.clearOverflow
  | _ => exact h

theorem Fe.Inv.after (legal : c.Legal) (h : f.Inv c) (pending : Nat) (turn : Turn) : (f.after c pending turn).Inv c := by
  unfold Fe.after
  split
  case h_1 k => split; exacts [h.obey _, h]
  case h_2 b => exact h.withChan (h.chan.rxPush b)
  case h_3 => exact h.withChan h.chan.txDrop
  case h_4 => exact h.byteStep
  case h_5 => exact h.ticked
  case h_6 => split; exacts [h, h.ticked]
  case h_7 => exact Fe.inv_reset legal
  case h_8 => exact h

end

end Sys2Proof.Machine
end

section
/-!
The invariants of XR (R34, R30) are kept by every turn. Its byte step ends with the timer settle (R224), which makes the
timer right whatever the rule left in it; so the rules are proved for XR with its timer at 0.
-/
namespace Sys2Proof.Machine

section
variable {c : Config} {x y : Xr}

theorem Xr.inv_reset (legal : c.Legal) : (Xr.reset c).Inv c where
  chan := Channel.wf_reset legal.1
  bufSize := List.length_replicate
  countOk := Nat.zero_le _
  tcountOk := Nat.zero_lt_one
  retryOk := zero_le_byte _
  timerOff := fun _ => rfl

theorem Xr.Inv.withChan (h : x.Inv c) {ch : Channel} (hch : ch.Wf c .xr) : { x with chan := ch }.Inv c :=
  { h with chan := hch }

theorem Xr.Inv.withTimer (h : x.Inv c) {timer : Word} (off : x.state.active = false → timer = 0) :
    { x with timer := timer }.Inv c := { h with timerOff := off }

theorem Xr.Inv.timerZero (h : x.Inv c) : { x with timer := 0 }.Inv c := h.withTimer fun _ => rfl

theorem Xr.frameSize_cases (x : Xr) : x.frameSize = 128 ∨ x.frameSize = 1024 := by
  unfold Xr.frameSize
  split
  · exact .inr rfl
  · exact .inl rfl

theorem CheckMode.trailerLen_cases (m : CheckMode) : m.trailerLen = 1 ∨ m.trailerLen = 2 := by
  cases m
  · exact .inl rfl
  · exact .inr rfl

theorem CheckMode.trailerLen_pos (m : CheckMode) : 0 < m.trailerLen := by cases m <;> decide

/-- A retry count below its budget stays within it when it goes up (R30, R40). -/
theorem retry_succ_le {r m : Byte} (le : r ≤ m) (left : r ≠ m) : r + 1 ≤ m := by bv_omega

/-! ### Rules shared by several bytes -/

theorem Xr.inv_eotRule (h : { x with timer := 0 }.Inv c) (hy : x.eotRule c = some y) :
    { y with timer := 0 }.Inv c := by
  obtain ⟨tx, ev, rfl⟩ := Xr.eotRule_cases hy
  exact { h with chan := (h.chan.txPush (p := [0x06]) tx).evPush ev rfl trivial, timerOff := fun _ => rfl }

theorem Xr.inv_failureEntry (h : { x with timer := 0 }.Inv c) (terminal : XrState) (e : Event) (own : e.unit = .xr)
    (ok : e.FieldsOk) (ev : 1 ≤ x.chan.evRoom c) : (x.failureEntry terminal e).Inv c :=
  { h with chan := h.chan.evPush ev own ok, timerOff := fun _ => rfl }

theorem Xr.inv_canRule (h : { x with timer := 0 }.Inv c) (hy : x.canRule c = some y) : { y with timer := 0 }.Inv c := by
  obtain ⟨ev, rfl⟩ := Xr.canRule_cases hy
  exact (Xr.inv_failureEntry h .cancelled (.xrCancelled x.expectedSeq) rfl trivial ev).timerZero

theorem Xr.inv_failurePath (hy : x.failurePath c = some y) (h : { x with timer := 0 }.Inv c) :
    { y with timer := 0 }.Inv c := by
  obtain ⟨-, ev, rfl⟩ | ⟨left, tx, rfl⟩ := Xr.failurePath_cases hy
  · exact (Xr.inv_failureEntry h .failed (.xrBadMessage x.expectedSeq) rfl trivial ev).timerZero
  · exact { h with
      chan := h.chan.txPush tx
      retryOk := retry_succ_le h.retryOk left
      timerOff := fun _ => rfl }

theorem Xr.inv_accept (hy : x.accept c = some y) (h : { x with timer := 0 }.Inv c) : { y with timer := 0 }.Inv c := by
  obtain ⟨tx, ev, rfl⟩ := Xr.accept_cases hy
  have bufSize : x.buf.length = 1024 := h.bufSize
  have ok : (Event.xrFrame x.rxSeq (BitVec.ofNat 16 x.frameSize) (x.buf.take x.frameSize)).FieldsOk := by
    obtain size | size := x.frameSize_cases <;> rw [size]
    · exact ⟨.inl rfl, by rw [List.length_take, bufSize]; rfl⟩
    · exact ⟨.inr rfl, by rw [List.length_take, bufSize]; rfl⟩
  exact { h with
    chan := Channel.Wf.txPush (h.chan.evPush ev rfl ok) tx
    retryOk := zero_le_byte _
    timerOff := fun _ => rfl }

theorem Xr.inv_validate (hy : x.validate c = some y) (h : { x with count := 0, tcount := 0, timer := 0 }.Inv c) :
    { y with timer := 0 }.Inv c := by
  obtain ⟨-, -, good⟩ | ⟨-, bad⟩ := Xr.validate_cases hy
  · exact Xr.inv_accept good h
  · exact Xr.inv_failurePath bad h

/-! ### Byte rules -/

variable {b : Byte}

/-- With both counts at 0 every other working field of a frame is free. -/
theorem Xr.Inv.countsZero (h : x.Inv c) (state : XrState) (large : Bool) (seq t0 t1 : Byte) :
    { x with state := state, size1k := large, rxSeq := seq, trailer0 := t0, trailer1 := t1,
             count := 0, tcount := 0, timer := 0 }.Inv c :=
  { h with
    countOk := Nat.zero_le _
    tcountOk := x.mode.trailerLen_pos
    timerOff := fun _ => rfl }

theorem Xr.Inv.complementByte (h : x.Inv c) (hy : x.complementByte c b = some y) : { y with timer := 0 }.Inv c := by
  unfold Xr.complementByte Xr.errorByte at hy
  split_ifs at hy
  · obtain rfl := Option.some.inj hy
    exact h.countsZero .receiveData x.size1k x.rxSeq x.trailer0 x.trailer1
  · exact Xr.inv_canRule h.timerZero hy
  · exact Xr.inv_eotRule h.timerZero hy
  · obtain rfl := Option.some.inj hy
    exact { h with timerOff := fun _ => rfl }
  · exact Xr.inv_failurePath hy h.timerZero

theorem Xr.Inv.receiveByte (h : x.Inv c) (hy : x.receiveByte c b = some y) : { y with timer := 0 }.Inv c := by
  by_cases more : x.count.toNat < x.frameSize
  · rw [Xr.receiveByte_data more] at hy
    obtain rfl := Option.some.inj hy
    exact { h with
      bufSize := List.length_set.trans h.bufSize
      countOk := by
        have small : x.frameSize ≤ 1024 := by obtain size | size := x.frameSize_cases <;> omega
        show (x.count + 1).toNat ≤ x.frameSize
        bv_omega
      timerOff := fun _ => rfl }
  · have tcount := h.tcountOk
    have small := x.mode.trailerLen_cases
    have stored : ∃ t0 t1, x.storeTrailer b = { x with trailer0 := t0, trailer1 := t1 } := by
      unfold Xr.storeTrailer
      split
      · exact ⟨b, x.trailer1, rfl⟩
      · exact ⟨x.trailer0, b, rfl⟩
    obtain ⟨t0, t1, stored⟩ := stored
    rw [Xr.receiveByte_trailer (Nat.le_antisymm h.countOk (Nat.not_lt.mp more)), stored] at hy
    split_ifs at hy with last
    · exact Xr.inv_validate hy (h.countsZero x.state x.size1k x.rxSeq t0 t1)
    · obtain rfl := Option.some.inj hy
      exact { h with
        tcountOk := by
          show (x.tcount + 1).toNat < x.mode.trailerLen
          bv_omega
        timerOff := fun _ => rfl }

theorem Xr.Inv.dataByte (h : x.Inv c) (hy : x.dataByte c b = some y) : { y with timer := 0 }.Inv c := by
  unfold Xr.dataByte at hy
  split at hy
  case h_5 => cases hy
  case h_6 => obtain rfl := Option.some.inj hy; exact { h with timerOff := fun _ => rfl }
  case h_7 => exact h.complementByte hy
  case h_8 => exact h.receiveByte hy
  all_goals obtain rfl := Option.some.inj hy; exact h.timerZero

theorem Xr.Inv.headerByte (h : x.Inv c) (hy : x.headerByte c b = some y) : { y with timer := 0 }.Inv c := by
  unfold Xr.headerByte at hy
  split_ifs at hy
  · obtain rfl := Option.some.inj hy
    exact h.countsZero .waitSequence false x.rxSeq x.trailer0 x.trailer1
  · obtain rfl := Option.some.inj hy
    exact h.countsZero .waitSequence true x.rxSeq x.trailer0 x.trailer1
  · exact Xr.inv_eotRule h.timerZero hy
  · exact Xr.inv_canRule h.timerZero hy
  · obtain rfl := Option.some.inj hy
    exact h.timerZero

theorem Xr.Inv.byteRule (h : x.Inv c) (hy : x.byteRule c b = some y) : { y with timer := 0 }.Inv c := by
  unfold Xr.byteRule at hy
  split at hy
  · exact h.headerByte hy
  · exact h.dataByte hy

theorem Xr.inv_settle (h : { x with timer := 0 }.Inv c) : (x.settle c).Inv c :=
  { h with timerOff := fun off => if_neg (ne_true_of_eq_false off) }

/-! ### Turns -/

theorem Xr.byteStep_cases (c : Config) (x : Xr) :
    x.byteStep c = x ∨ ∃ b y, x.chan.rxHead = some b ∧ x.byteRule c b = some y ∧
      x.byteStep c = (y.settle c).consume c := by
  unfold Xr.byteStep
  split
  · exact .inl rfl
  · split
    · exact .inl rfl
    · exact .inr ⟨_, _, ‹_›, ‹_›, rfl⟩

theorem Xr.Inv.byteStep (h : x.Inv c) : (x.byteStep c).Inv c := by
  obtain same | ⟨b, y, -, hy, taken⟩ := x.byteStep_cases c
  · rw [same]; exact h
  · have settled := Xr.inv_settle (h.byteRule hy)
    rw [taken]
    exact settled.withChan settled.chan.consume

theorem Xr.Inv.ticked (h : x.Inv c) : (x.ticked c).Inv c := by
  unfold Xr.ticked
  cases ht : x.tick c with
  | none => exact h
  | some y =>
    obtain ⟨-, rfl⟩ | ⟨on, -, rfl⟩ | ⟨last, room, rfl⟩ := Xr.tick_cases ht
    · exact h
    · exact h.withTimer fun off => absurd (h.timerOff off) on
    · exact Xr.inv_failureEntry h.timerZero .failed (.xrTimeout x.expectedSeq) rfl trivial room

theorem Xr.Inv.obey (h : x.Inv c) (i : Instr) : (x.obey c i).Inv c := by
  cases i with
  | evPop unit =>
    show Xr.Inv c (ite _ _ _)
    split_ifs
    · exact h.withChan h.chan.evDrop
    · exact h
  | xrStart mode =>
    show Xr.Inv c (ite _ _ _)
    split
    case isTrue started =>
      obtain ⟨-, -, room⟩ := started
      exact { h with
        chan := h.chan.txPush room
        countOk := Nat.zero_le _
        tcountOk := CheckMode.trailerLen_pos _
        retryOk := zero_le_byte _
        timerOff := by rintro ⟨⟩ }
    case isFalse => exact h
  | xrCancel =>
    show Xr.Inv c (ite _ _ _)
    split_ifs with cancelled
    · exact { h with chan := h.chan.txPush cancelled.2, timerOff := fun _ => rfl }
    · exact h
  | xrClrOvf => exact h.withChan h.chan.clearOverflow
  | _ => exact h

theorem Xr.Inv.after (legal : c.Legal) (h : x.Inv c) (pending : Nat) (turn : Turn) : (x.after c pending turn).Inv c := by
  unfold Xr.after
  split
  case h_1 k => split; exacts [h.obey _, h]
  case h_2 b => exact h.withChan (h.chan.rxPush b)
  case h_3 => exact h.withChan h.chan.txDrop
  case h_4 => exact h.byteStep
  case h_5 => exact h.ticked
  case h_6 => split; exacts [h, h.ticked]
  case h_7 => exact Xr.inv_reset legal
  case h_8 => exact h

end

end Sys2Proof.Machine
end

section
/-!
The invariants of XT (R44, R40, R280) are kept by every turn, and with those of FE and XR so are the block's. XT's rules
either move between the states that hold a frame, and then the frame and its padding stay (`Xt.Inv.sendTo`), or go to a
state that holds none, and then nothing is said of them (`Xt.Inv.leave`).
-/
namespace Sys2Proof.Machine

section
variable {c : Config} {x y : Xt}

theorem Xt.inv_reset (legal : c.Legal) : (Xt.reset c).Inv c where
  chan := Channel.wf_reset legal.1
  bufSize := List.length_replicate
  sentOk := Nat.zero_le _
  freshMode := fun _ => rfl
  sending := by rintro ⟨⟩
  lenOk := by rintro ⟨⟩
  shortOk := by rintro ⟨⟩
  padded := by rintro ⟨⟩
  retryOk := zero_le_byte _
  timerOff := fun _ => rfl

theorem Xt.Inv.withChan (h : x.Inv c) {ch : Channel} (hch : ch.Wf c .xt) : { x with chan := ch }.Inv c :=
  { h with chan := hch }

theorem CheckMode.frameSize_cases (m : CheckMode) : m.frameSize = 128 ∨ m.frameSize = 1024 := by
  cases m
  · exact .inl rfl
  · exact .inr rfl

theorem CheckMode.frameSize_pos (m : CheckMode) : 0 < m.frameSize := by cases m <;> decide

theorem CheckMode.frameSize_le (m : CheckMode) : m.frameSize ≤ 1024 := by cases m <;> decide

/-- The states that hold no frame and are entered with the frame counters as they are. -/
def XtState.between (st : XtState) : Prop := st.holdsFrame = false ∧ st ≠ .awaitMode

theorem Xt.Inv.leave (h : x.Inv c) {st : XtState} (hst : st.between) {timer : Word}
    (off : st.awaiting = false → timer = 0) : { x with state := st, timer := timer }.Inv c := by
  obtain ⟨empty, notMode⟩ := hst
  exact { h with
    freshMode := fun hs => absurd hs notMode
    sending := by rintro rfl; cases empty
    lenOk := fun holds => absurd holds (ne_true_of_eq_false empty)
    shortOk := fun holds => absurd holds (ne_true_of_eq_false empty)
    padded := fun holds => absurd holds (ne_true_of_eq_false empty)
    timerOff := off }

theorem Xt.Inv.sendTo (h : x.Inv c) (holds : x.state.holdsFrame = true) {st : XtState} (hst : st.holdsFrame = true)
    {sent : BitVec 11} (sentOk : sent.toNat ≤ x.mode.frameSize)
    (sending : st = .sendData → sent.toNat < x.mode.frameSize) {timer : Word} (off : st.awaiting = false → timer = 0)
    (tidx : Bool) : { x with state := st, sent := sent, tidx := tidx, timer := timer }.Inv c :=
  { h with
    sentOk := sentOk
    freshMode := by rintro rfl; cases hst
    sending := sending
    lenOk := fun _ => h.lenOk holds
    shortOk := fun _ => h.shortOk holds
    padded := fun _ => h.padded holds
    timerOff := off }

/-! ### Byte rules -/

variable {b : Byte} {m : CheckMode}

theorem Xt.inv_failureEntry (h : x.Inv c) {st : XtState} (hst : st.between)
    (cans : List Byte) (e : Event) (own : e.unit = .xt) (ok : e.FieldsOk) (tx : cans.length ≤ x.chan.txRoom c)
    (ev : 1 ≤ x.chan.evRoom c) : (x.failureEntry st cans e).Inv c :=
  (h.leave (timer := 0) hst fun _ => rfl).withChan ((h.chan.txPush tx).evPush ev own ok)

theorem Xt.Inv.selectMode (h : x.Inv c) (hs : x.state = .awaitMode) (hy : x.selectMode m c = some y) : y.Inv c := by
  obtain ⟨ev, rfl⟩ := Xt.selectMode_cases hy
  have fresh : x.sent = 0 := h.freshMode hs
  have ok : (Event.xtReady (m.bit.setWidth 8)).FieldsOk := by cases m; exacts [.inl rfl, .inr rfl]
  exact { h with
    chan := h.chan.evPush ev rfl ok
    sentOk := by
      show x.sent.toNat ≤ m.frameSize
      rw [fresh]
      exact Nat.zero_le _
    freshMode := by simp
    sending := by simp
    lenOk := by rintro ⟨⟩
    shortOk := by rintro ⟨⟩
    padded := by rintro ⟨⟩
    timerOff := fun _ => h.timerOff (by rw [hs]; rfl) }

theorem Xt.Inv.canRule (h : x.Inv c) (hy : x.canRule c = some y) : y.Inv c := by
  obtain ⟨ev, rfl⟩ := Xt.canRule_cases hy
  exact Xt.inv_failureEntry h ⟨rfl, by simp⟩ [] (.xtCancelled x.seq) rfl trivial (Nat.zero_le _) ev

theorem Xt.Inv.exhausted (h : x.Inv c) (hy : x.exhausted c = some y) : y.Inv c := by
  obtain ⟨tx, ev, rfl⟩ := Xt.exhausted_cases hy
  exact Xt.inv_failureEntry h ⟨rfl, by simp⟩ canThree (.xtRetriesExhausted x.seq) rfl trivial tx ev

theorem Xt.Inv.frameAcked (h : x.Inv c) (hs : x.state = .awaitAck) (hy : x.frameAcked c = some y) : y.Inv c := by
  have holds : x.state.holdsFrame = true := by rw [hs]; rfl
  obtain ⟨low, high⟩ := h.lenOk holds
  have fits := x.mode.frameSize_le
  have wide : (x.dataLen.setWidth 16).toNat = x.dataLen.toNat := BitVec.toNat_setWidth_of_le (by decide)
  have ok {last : Byte} (hl : last = 0 ∨ last = 1) : (Event.xtAcked x.seq (x.dataLen.setWidth 16) last).FieldsOk :=
    ⟨by omega, by omega, hl⟩
  obtain ⟨ev, ⟨-, tx, rfl⟩ | ⟨-, rfl⟩⟩ := Xt.frameAcked_cases hy
  · have left := h.leave (st := .awaitEotAck) (timer := c.xtAckTimeout) ⟨rfl, by simp⟩ (by rintro ⟨⟩)
    have chan := Channel.Wf.txPush (p := [0x04]) (h.chan.evPush ev rfl (ok (.inr rfl))) tx
    exact { left.withChan chan with retryOk := zero_le_byte _ }
  · have left := h.leave (st := .waitFrame) (timer := 0) ⟨rfl, by simp⟩ fun _ => rfl
    exact { left.withChan (h.chan.evPush ev rfl (ok (.inl rfl))) with retryOk := zero_le_byte _ }

theorem Xt.Inv.eotAcked (h : x.Inv c) (hy : x.eotAcked c = some y) : y.Inv c := by
  obtain ⟨ev, rfl⟩ := Xt.eotAcked_cases hy
  exact (h.leave (st := .done) (timer := 0) ⟨rfl, by simp⟩ fun _ => rfl).withChan
    (h.chan.evPush (e := .xtDone x.total) ev rfl trivial)

theorem Xt.Inv.frameNaked (h : x.Inv c) (hs : x.state = .awaitAck) (hy : x.frameNaked c = some y) : y.Inv c := by
  obtain ⟨-, spent⟩ | ⟨left, rfl⟩ := Xt.frameNaked_cases hy
  · exact h.exhausted spent
  · have again := h.sendTo (st := .sendHeader) (sent := 0) (timer := 0) (by rw [hs]; rfl) rfl (Nat.zero_le _) (by simp)
      (fun _ => rfl) false
    exact { again with retryOk := retry_succ_le h.retryOk left }

theorem Xt.Inv.eotNaked (h : x.Inv c) (hs : x.state = .awaitEotAck) (hy : x.eotNaked c = some y) : y.Inv c := by
  obtain ⟨-, spent⟩ | ⟨left, tx, rfl⟩ := Xt.eotNaked_cases hy
  · exact h.exhausted spent
  · exact { h with
      chan := h.chan.txPush (p := [0x04]) tx
      retryOk := retry_succ_le h.retryOk left
      timerOff := fun off => by
        have awaiting : x.state.awaiting = true := by rw [hs]; rfl
        exact absurd awaiting (ne_true_of_eq_false off) }

theorem XtState.awaiting_cases {st : XtState} (h : st.awaiting = true) : st = .awaitAck ∨ st = .awaitEotAck := by
  cases st
  case awaitAck => exact .inl rfl
  case awaitEotAck => exact .inr rfl
  all_goals cases h

theorem Xt.Inv.ackRule (h : x.Inv c) (hs : x.state.awaiting = true) (hy : x.ackRule c = some y) : y.Inv c := by
  obtain ack | eot := XtState.awaiting_cases hs
  · exact h.frameAcked ack ((Xt.ackRule_awaitAck ack).symm.trans hy)
  · exact h.eotAcked ((Xt.ackRule_awaitEotAck eot).symm.trans hy)

theorem Xt.Inv.nakRule (h : x.Inv c) (hs : x.state.awaiting = true) (hy : x.nakRule c = some y) : y.Inv c := by
  obtain ack | eot := XtState.awaiting_cases hs
  · exact h.frameNaked ack ((Xt.nakRule_awaitAck ack).symm.trans hy)
  · exact h.eotNaked eot ((Xt.nakRule_awaitEotAck eot).symm.trans hy)

theorem Xt.Inv.discardByte (h : x.Inv c) : (x.discardByte c).Inv c := by
  unfold Xt.discardByte
  split
  case isTrue awaiting => exact { h with timerOff := fun off => absurd awaiting (ne_true_of_eq_false off) }
  case isFalse => exact h

theorem Xt.Inv.byteRule (h : x.Inv c) (hy : x.byteRule c b = some y) : y.Inv c := by
  unfold Xt.byteRule at hy
  split_ifs at hy with crc checksum ack nak can
  · exact h.selectMode crc.1 hy
  · exact h.selectMode checksum.1 hy
  · exact h.ackRule ack.1 hy
  · exact h.nakRule nak.1 hy
  · exact h.canRule hy
  · obtain rfl := Option.some.inj hy
    exact h.discardByte

/-! ### Emission -/

theorem Xt.Inv.emit (h : x.Inv c) (hy : x.emit c = some y) : y.Inv c := by
  have off {st : XtState} (hs : x.state = st) (notAwaiting : st.awaiting = false) : x.timer = 0 :=
    h.timerOff (by rw [hs]; exact notAwaiting)
  have holds {st : XtState} (hs : x.state = st) (hst : st.holdsFrame = true) : x.state.holdsFrame = true := by
    rw [hs]; exact hst
  obtain ⟨tx, ⟨hs, rfl⟩ | ⟨hs, rfl⟩ | ⟨hs, rfl⟩ | ⟨hs, data⟩ | ⟨hs, rfl⟩⟩ := Xt.emit_cases hy
  · exact (h.sendTo (st := .sendSequence) (holds hs rfl) rfl h.sentOk (by simp) (fun _ => off hs rfl) x.tidx).withChan
      (h.chan.txPush (p := [_]) tx)
  · exact (h.sendTo (st := .sendSequenceComplement) (holds hs rfl) rfl h.sentOk (by simp) (fun _ => off hs rfl)
      x.tidx).withChan (h.chan.txPush (p := [_]) tx)
  · exact (h.sendTo (st := .sendData) (sent := 0) (holds hs rfl) rfl (Nat.zero_le _) (fun _ => x.mode.frameSize_pos)
      (fun _ => off hs rfl) x.tidx).withChan (h.chan.txPush (p := [_]) tx)
  · have before := h.sending hs
    have fits := x.mode.frameSize_le
    have next : (x.sent + 1).toNat = x.sent.toNat + 1 := by bv_omega
    cases hb : x.buf[x.sent.toNat]? with
    | none => rw [Xt.emitData, hb] at data; cases data
    | some b =>
      by_cases last : (x.sent + 1).toNat = x.mode.frameSize
      · rw [Xt.emitData_last hb last] at data
        obtain rfl := Option.some.inj data
        exact (h.sendTo (st := .sendChecksum) (sent := x.sent + 1) (holds hs rfl) rfl last.le (by simp)
          (fun _ => off hs rfl) false).withChan (h.chan.txPush (p := [_]) tx)
      · rw [Xt.emitData_more hb last] at data
        obtain rfl := Option.some.inj data
        exact (h.sendTo (st := x.state) (sent := x.sent + 1) (holds hs rfl) (holds hs rfl) (by omega)
          (fun _ => by omega) h.timerOff x.tidx).withChan (h.chan.txPush (p := [_]) tx)
  · have sent {p : Byte} (tidx : Bool) : ({ x.txPush [p] with tidx := tidx }.frameSent c).Inv c :=
      (h.sendTo (st := .awaitAck) (holds hs rfl) rfl h.sentOk (by simp) (by rintro ⟨⟩) tidx).withChan
        (h.chan.txPush (p := [_]) tx)
    cases hm : x.mode with
    | checksum => rw [Xt.emitChecksum_checksum hm]; exact sent x.tidx
    | crc =>
      cases ht : x.tidx with
      | false =>
        rw [Xt.emitChecksum_crc_first hm ht]
        exact { h.withChan (h.chan.txPush (p := [_]) tx) with }
      | true => rw [Xt.emitChecksum_crc_second hm ht]; exact sent false

/-! ### Turns -/

theorem Xt.byteStep_cases (c : Config) (x : Xt) :
    x.byteStep c = x ∨ ∃ b y, x.chan.rxHead = some b ∧ x.byteRule c b = some y ∧ x.byteStep c = y.consume c := by
  unfold Xt.byteStep
  split
  · exact .inl rfl
  · split
    · exact .inl rfl
    · exact .inr ⟨_, _, ‹_›, ‹_›, rfl⟩

theorem Xt.Inv.byteStep (h : x.Inv c) : (x.byteStep c).Inv c := by
  obtain same | ⟨b, y, -, hy, taken⟩ := x.byteStep_cases c
  · rw [same]; exact h
  · rw [taken]
    exact (h.byteRule hy).withChan (h.byteRule hy).chan.consume

theorem Xt.Inv.ticked (h : x.Inv c) : (x.ticked c).Inv c := by
  unfold Xt.ticked
  cases ht : x.tick c with
  | none => exact h
  | some y =>
    obtain ⟨-, rfl⟩ | ⟨on, -, rfl⟩ | ⟨last, tx, ev, rfl⟩ := Xt.tick_cases ht
    · exact h
    · exact { h with timerOff := fun off => absurd (h.timerOff off) on }
    · exact Xt.inv_failureEntry h ⟨rfl, by simp⟩ canThree (.xtTimeout x.seq) rfl trivial tx ev

theorem Xt.Inv.emitted (h : x.Inv c) : (x.emitted c).Inv c := by
  unfold Xt.emitted
  cases he : x.emit c with
  | none => exact h
  | some y => exact h.emit he

/-- A loaded frame has the buffer's size, and its caller bytes are followed by padding (R280). -/
theorem Xt.loadBuf_length {bytes : List Byte} (size : x.buf.length = 1024) (fits : bytes.length ≤ x.mode.frameSize) :
    (x.loadBuf bytes).length = 1024 := by
  have := x.mode.frameSize_le
  simp only [Xt.loadBuf, List.length_append, List.length_replicate, List.length_drop, size]
  omega

theorem Xt.loadBuf_padded {bytes : List Byte} {i : Nat} (low : bytes.length ≤ i) (high : i < x.mode.frameSize) :
    (x.loadBuf bytes)[i]? = some 0x1A := by
  have inPad : i - bytes.length < x.mode.frameSize - bytes.length := by omega
  rw [Xt.loadBuf, List.append_assoc, List.getElem?_append_right low,
    List.getElem?_append_left (by rwa [List.length_replicate]), List.getElem?_replicate, if_pos inPad]

theorem Xt.Inv.obey (h : x.Inv c) (i : Instr) : (x.obey c i).Inv c := by
  cases i with
  | evPop unit =>
    show Xt.Inv c (ite _ _ _)
    split
    · exact h.withChan h.chan.evDrop
    · exact h
  | xtStart =>
    show Xt.Inv c (ite _ _ _)
    split
    · exact { h with
        sentOk := Nat.zero_le _
        freshMode := fun _ => rfl
        sending := by rintro ⟨⟩
        lenOk := by rintro ⟨⟩
        shortOk := by rintro ⟨⟩
        padded := by rintro ⟨⟩
        retryOk := zero_le_byte _
        timerOff := fun _ => rfl }
    · exact h
  | xtSendFrame n bytes =>
    show Xt.Inv c (ite _ _ _)
    split
    case isTrue loaded =>
      obtain ⟨waits, low, high, len⟩ := loaded
      have fits := x.mode.frameSize_le
      have narrow : (n.setWidth 11).toNat = n.toNat := by
        rw [BitVec.toNat_setWidth, Nat.mod_eq_of_lt (by omega)]
      exact { h with
        bufSize := Xt.loadBuf_length h.bufSize (len.trans_le high)
        sentOk := Nat.zero_le _
        freshMode := by simp
        sending := by simp
        lenOk := fun _ => by
          show 1 ≤ (n.setWidth 11).toNat ∧ (n.setWidth 11).toNat ≤ x.mode.frameSize
          omega
        shortOk := fun _ => by
          show decide (n.toNat < x.mode.frameSize) = decide ((n.setWidth 11).toNat < x.mode.frameSize)
          rw [narrow]
        padded := fun _ i hi inFrame => Xt.loadBuf_padded (by rw [len, ← narrow]; exact hi) inFrame
        retryOk := zero_le_byte _
        timerOff := fun _ => h.timerOff (by rw [waits]; rfl) }
    case isFalse => exact h
  | xtOver =>
    show Xt.Inv c (ite _ _ _)
    split
    case isTrue ends =>
      have left := h.leave (st := .awaitEotAck) (timer := c.xtAckTimeout) ⟨rfl, by simp⟩ (by rintro ⟨⟩)
      exact { left.withChan (h.chan.txPush (p := [0x04]) ends.2) with retryOk := zero_le_byte _ }
    case isFalse => exact h
  | xtCancel =>
    show Xt.Inv c (ite _ _ _)
    split
    case isTrue cancelled =>
      exact (h.leave (st := .cancelled) (timer := 0) ⟨rfl, by simp⟩ fun _ => rfl).withChan (h.chan.txPush cancelled.2)
    case isFalse => exact h
  | xtClrOvf => exact h.withChan h.chan.clearOverflow
  | _ => exact h

theorem Xt.Inv.after (legal : c.Legal) (h : x.Inv c) (pending : Nat) (turn : Turn) : (x.after c pending turn).Inv c := by
  unfold Xt.after
  split
  case h_1 k => split; exacts [h.obey _, h]
  case h_2 b => exact h.withChan (h.chan.rxPush b)
  case h_3 => exact h.withChan h.chan.txDrop
  case h_4 => exact h.byteStep
  case h_5 => exact h.ticked
  case h_6 => split; exacts [h, h.ticked]
  case h_7 => exact h.emitted
  case h_8 => exact Xt.inv_reset legal
  case h_9 => exact h

end

/-! ### The block -/

theorem State.inv_resetWith {c : Config} (legal : c.Legal) : (State.resetWith c).Inv :=
  ⟨legal, Fe.inv_reset legal, Xr.inv_reset legal, Xt.inv_reset legal⟩

theorem State.Inv.takeTurn {s t : State} {turn : Turn} (h : s.Inv) (ht : Machine.takeTurn turn s = .next t) :
    t.Inv := by
  rw [after_of_takeTurn ht]
  exact ⟨h.legal, h.fe.after h.legal _ _, h.xr.after h.legal _ _, h.xt.after h.legal _ _⟩

theorem State.Inv.setAgenda {s : State} (h : s.Inv) (a : List Turn) : (s.setAgenda a).Inv :=
  ⟨h.legal, h.fe, h.xr, h.xt⟩

theorem State.Inv.step {s t : State} (h : s.Inv) (ht : Machine.step s = .next t) : t.Inv := by
  cases ha : s.agenda with
  | nil =>
    rw [step_of_empty ha] at ht
    rw [← Host.Outcome.next.inj ht]
    exact h
  | cons turn rest =>
    rw [step_of_turn ha] at ht
    exact (h.setAgenda rest).takeTurn ht

end Sys2Proof.Machine

namespace Sys2Proof.Proofs
open Sys2Proof.Machine

/-- Settles O58: the values of `State.reset` are legal. -/
theorem resetIsSafe : Obligations.ResetIsSafe :=
  ⟨State.inv_resetWith (by decide), fun _ => State.inv_resetWith⟩

/-- Settles O59: every turn keeps each unit's invariant, because each unit keeps its own. -/
theorem everyStepKeepsTheInvariants : Obligations.EveryStepKeepsTheInvariants :=
  fun _ _ h ht => h.step ht

end Sys2Proof.Proofs
end

section
/-!
What a step adds to the queues (R75, R77, R343). A byte rule, a tick or an emission appends to the two queues of its own
unit and posts at most one record (`Channel.Grows`); a host command posts none.
-/
namespace Sys2Proof.Machine

/-- `ch'` is `ch` with bytes appended to its transmit queue and at most one record to its event queue. -/
def Channel.Grows (ch ch' : Channel) : Prop :=
  ∃ p q, q.length ≤ 1 ∧ ch' = { ch with txq := ch.txq ++ p, evq := ch.evq ++ q }

section
variable {ch : Channel}

theorem Channel.Grows.refl (ch : Channel) : ch.Grows ch := ⟨[], [], Nat.zero_le _, by rw [List.append_nil, List.append_nil]⟩

theorem Channel.grows_txPush (p : List Byte) : ch.Grows (ch.txPush p) :=
  ⟨p, [], Nat.zero_le _, by rw [List.append_nil]; rfl⟩

theorem Channel.grows_evPush (e : Event) : ch.Grows (ch.evPush e) :=
  ⟨[], [e], Nat.le_refl _, by rw [List.append_nil]; rfl⟩

theorem Channel.grows_txPush_evPush (p : List Byte) (e : Event) : ch.Grows ((ch.txPush p).evPush e) :=
  ⟨p, [e], Nat.le_refl _, rfl⟩

end

/-! ## FE -/

section
variable {c : Config} {f g : Fe} {b : Byte}

/-- `g` is FE back in WAIT_START after exactly one reply: ACK, NAK or ACK_ABORT (R179). -/
def Fe.Replied (f g : Fe) : Prop :=
  g.rxState = .waitStart ∧
    ∃ r : Byte, (r = 0xA1 ∨ r = 0xA2 ∨ r = 0xA3) ∧ g.chan = f.chan.txPush [0x5A, r]

theorem Fe.replied_of_nak (hg : f.nak c = some g) : f.Replied g := by
  obtain ⟨-, rfl⟩ := Fe.nak_cases hg
  exact ⟨rfl, 0xA2, .inr (.inl rfl), rfl⟩

theorem Fe.replied_of_validate (hg : f.validate c = some g) : f.Replied g := by
  obtain bad | ⟨-, ⟨-, command⟩ | ⟨-, data⟩⟩ := Fe.validate_cases hg
  · exact Fe.replied_of_nak bad
  · obtain ⟨-, -, rfl⟩ := Fe.acceptCommand_cases command
    exact ⟨rfl, 0xA1, .inl rfl, rfl⟩
  · obtain ⟨-, ⟨-, rfl⟩ | ⟨-, -, rfl⟩⟩ := Fe.acceptData_cases data
    · exact ⟨rfl, 0xA3, .inr (.inr rfl), rfl⟩
    · exact ⟨rfl, 0xA1, .inl rfl, rfl⟩

/-- `g` is FE with its packet still open and nothing queued. -/
def Fe.StaysOpen (f g : Fe) : Prop := g.rxState ≠ .waitStart ∧ g.rxState ≠ .waitType ∧ g.chan = f.chan

/-- Inside a packet a byte keeps it open, or ends it with one reply (R179). -/
theorem Fe.dataByte_cases (opened : f.rxState ≠ .waitStart) (hg : f.dataByte c b = some g) :
    f.StaysOpen g ∨ f.Replied g := by
  unfold Fe.dataByte at hg
  split at hg
  case h_1 hs => exact absurd hs opened
  case h_2 => cases hg
  case h_3 => obtain rfl := Option.some.inj hg; exact .inl ⟨by simp [Fe.lenLoByte], by simp [Fe.lenLoByte], rfl⟩
  case h_4 =>
    by_cases tooLong : f.mps < le16 (lo f.pktLen) b
    · rw [Fe.lenHiByte_too_long tooLong] at hg
      exact .inr (Fe.replied_of_nak hg :)
    · rw [Fe.lenHiByte_accepted (BitVec.not_lt.mp tooLong)] at hg
      obtain rfl := Option.some.inj hg
      exact .inl ⟨by simp, by simp, rfl⟩
  case h_5 => obtain rfl := Option.some.inj hg; exact .inl ⟨by simp [Fe.crcLoByte], by simp [Fe.crcLoByte], rfl⟩
  case h_6 =>
    by_cases empty : f.pktLen = 0
    · rw [Fe.crcHiByte_last empty] at hg
      exact .inr (Fe.replied_of_validate hg :)
    · rw [Fe.crcHiByte_of_payload empty] at hg
      obtain rfl := Option.some.inj hg
      exact .inl ⟨by simp, by simp, rfl⟩
  case h_7 hs =>
    by_cases last : f.pktCount + 1 = f.pktLen
    · rw [Fe.payloadByte_last last] at hg
      exact .inr (Fe.replied_of_validate hg :)
    · rw [Fe.payloadByte_more last] at hg
      obtain rfl := Option.some.inj hg
      exact .inl ⟨by simp [hs], by simp [hs], rfl⟩

theorem Fe.grows_dataByte (hg : f.dataByte c b = some g) : f.chan.Grows g.chan := by
  by_cases hs : f.rxState = .waitStart
  · rw [Fe.dataByte_waitStart hs] at hg
    obtain rfl := Option.some.inj hg
    unfold Fe.waitStartByte
    split <;> exact .refl _
  · obtain ⟨-, -, same⟩ | ⟨-, r, -, replied⟩ := Fe.dataByte_cases hs hg
    · rw [same]; exact .refl _
    · rw [replied]; exact Channel.grows_txPush _

theorem Fe.grows_acknowledged {outcome : Byte → Event} (hg : f.acknowledged outcome c = some g) :
    f.chan.Grows g.chan := by
  unfold Fe.acknowledged at hg
  split at hg
  · obtain ⟨-, rfl⟩ := Fe.endExchange_cases hg
    exact Channel.grows_evPush _
  · obtain rfl := Option.some.inj hg
    exact .refl _

theorem Fe.grows_nakRule (hg : f.nakRule c = some g) : f.chan.Grows g.chan := by
  unfold Fe.nakRule at hg
  dsimp only at hg
  split_ifs at hg
  · obtain ⟨-, rfl⟩ := Fe.endExchange_cases hg
    exact Channel.grows_evPush _
  · obtain rfl := Option.some.inj hg
    exact Channel.grows_txPush _
  · obtain rfl := Option.some.inj hg
    exact .refl _

theorem Fe.grows_pingRule (hg : f.pingRule c = some g) : f.chan.Grows g.chan := by
  unfold Fe.pingRule at hg
  split at hg
  · obtain rfl := Option.some.inj hg
    exact Channel.grows_txPush _
  · cases hg

theorem Fe.grows_typeByte (hg : f.typeByte c b = some g) : f.chan.Grows g.chan := by
  unfold Fe.typeByte at hg
  split_ifs at hg
  · exact Fe.grows_acknowledged (outcome := .feTxOk) hg
  · exact Fe.grows_nakRule hg
  · exact Fe.grows_acknowledged (outcome := .feTxAborted) hg
  · obtain rfl := Option.some.inj hg; exact .refl _
  · obtain rfl := Option.some.inj hg; exact .refl _
  · exact Fe.grows_pingRule hg
  · obtain rfl := Option.some.inj hg; exact .refl _
  · obtain rfl := Option.some.inj hg
    unfold Fe.otherTypeByte
    split <;> exact .refl _

theorem Fe.grows_byteRule (hg : f.byteRule c b = some g) : f.chan.Grows g.chan := by
  unfold Fe.byteRule at hg
  split at hg
  · exact Fe.grows_typeByte hg
  · exact Fe.grows_dataByte hg

theorem Fe.grows_ticked (c : Config) (f : Fe) : f.chan.Grows (f.ticked c).chan := by
  unfold Fe.ticked
  cases ht : f.tick c with
  | none => exact .refl _
  | some g =>
    obtain ⟨-, rfl⟩ | ⟨-, -, rfl⟩ | ⟨-, -, rfl⟩ := Fe.tick_cases ht
    · exact .refl _
    · exact .refl _
    · exact Channel.grows_evPush _

end

/-! ## XR -/

section
variable {c : Config} {x y : Xr} {b : Byte}

theorem Xr.grows_eotRule (hy : x.eotRule c = some y) : x.chan.Grows y.chan := by
  obtain ⟨-, -, rfl⟩ := Xr.eotRule_cases hy
  exact Channel.grows_txPush_evPush _ _

theorem Xr.grows_canRule (hy : x.canRule c = some y) : x.chan.Grows y.chan := by
  obtain ⟨-, rfl⟩ := Xr.canRule_cases hy
  exact Channel.grows_evPush _

theorem Xr.grows_failurePath (hy : x.failurePath c = some y) : x.chan.Grows y.chan := by
  obtain ⟨-, -, rfl⟩ | ⟨-, -, rfl⟩ := Xr.failurePath_cases hy
  · exact Channel.grows_evPush _
  · exact Channel.grows_txPush _

theorem Xr.grows_validate (hy : x.validate c = some y) : x.chan.Grows y.chan := by
  obtain ⟨-, -, good⟩ | ⟨-, bad⟩ := Xr.validate_cases hy
  · obtain ⟨-, -, rfl⟩ := Xr.accept_cases good
    exact Channel.grows_txPush_evPush _ _
  · exact Xr.grows_failurePath (x := { x with count := 0, tcount := 0 }) bad

theorem Xr.grows_complementByte (hy : x.complementByte c b = some y) : x.chan.Grows y.chan := by
  unfold Xr.complementByte Xr.errorByte at hy
  split_ifs at hy
  · obtain rfl := Option.some.inj hy; exact .refl _
  · exact Xr.grows_canRule hy
  · exact Xr.grows_eotRule hy
  · obtain rfl := Option.some.inj hy; exact .refl _
  · exact Xr.grows_failurePath hy

theorem Xr.storeTrailer_chan (x : Xr) (b : Byte) : (x.storeTrailer b).chan = x.chan := by
  unfold Xr.storeTrailer
  split <;> rfl

theorem Xr.grows_receiveByte (hy : x.receiveByte c b = some y) : x.chan.Grows y.chan := by
  unfold Xr.receiveByte at hy
  dsimp only at hy
  rw [← x.storeTrailer_chan b]
  split_ifs at hy
  · obtain rfl := Option.some.inj hy
    rw [x.storeTrailer_chan b]
    exact .refl _
  · exact Xr.grows_validate (x := { x.storeTrailer b with tcount := _ }) hy
  · obtain rfl := Option.some.inj hy; exact .refl _

theorem Xr.grows_byteRule (hy : x.byteRule c b = some y) : x.chan.Grows y.chan := by
  unfold Xr.byteRule Xr.headerByte at hy
  split_ifs at hy
  · obtain rfl := Option.some.inj hy; exact .refl _
  · obtain rfl := Option.some.inj hy; exact .refl _
  · exact Xr.grows_eotRule hy
  · exact Xr.grows_canRule hy
  · obtain rfl := Option.some.inj hy; exact .refl _
  · unfold Xr.dataByte at hy
    split at hy
    case h_5 => cases hy
    case h_7 => exact Xr.grows_complementByte hy
    case h_8 => exact Xr.grows_receiveByte hy
    all_goals obtain rfl := Option.some.inj hy; exact .refl _

theorem Xr.grows_ticked (c : Config) (x : Xr) : x.chan.Grows (x.ticked c).chan := by
  unfold Xr.ticked
  cases ht : x.tick c with
  | none => exact .refl _
  | some g =>
    obtain ⟨-, rfl⟩ | ⟨-, -, rfl⟩ | ⟨-, -, rfl⟩ := Xr.tick_cases ht
    · exact .refl _
    · exact .refl _
    · exact Channel.grows_evPush _

end

/-! ## XT -/

section
variable {c : Config} {x y : Xt} {b : Byte}

theorem Xt.grows_exhausted (hy : x.exhausted c = some y) : x.chan.Grows y.chan := by
  obtain ⟨-, -, rfl⟩ := Xt.exhausted_cases hy
  exact Channel.grows_txPush_evPush _ _

theorem Xt.grows_ackRule (hy : x.ackRule c = some y) : x.chan.Grows y.chan := by
  unfold Xt.ackRule at hy
  split at hy
  · obtain ⟨-, ⟨-, -, rfl⟩ | ⟨-, rfl⟩⟩ := Xt.frameAcked_cases hy
    · exact Channel.grows_txPush_evPush _ _
    · exact Channel.grows_evPush _
  · obtain ⟨-, rfl⟩ := Xt.eotAcked_cases hy
    exact Channel.grows_evPush _

theorem Xt.grows_nakRule (hy : x.nakRule c = some y) : x.chan.Grows y.chan := by
  unfold Xt.nakRule at hy
  split at hy
  · obtain ⟨-, spent⟩ | ⟨-, rfl⟩ := Xt.frameNaked_cases hy
    · exact Xt.grows_exhausted spent
    · exact .refl _
  · obtain ⟨-, spent⟩ | ⟨-, -, rfl⟩ := Xt.eotNaked_cases hy
    · exact Xt.grows_exhausted spent
    · exact Channel.grows_txPush _

theorem Xt.discardByte_chan (c : Config) (x : Xt) : (x.discardByte c).chan = x.chan := by
  unfold Xt.discardByte
  split <;> rfl

theorem Xt.grows_selectMode {m : CheckMode} (hy : x.selectMode m c = some y) : x.chan.Grows y.chan := by
  obtain ⟨-, rfl⟩ := Xt.selectMode_cases hy
  exact Channel.grows_evPush _

theorem Xt.grows_byteRule (hy : x.byteRule c b = some y) : x.chan.Grows y.chan := by
  unfold Xt.byteRule at hy
  split_ifs at hy
  · exact Xt.grows_selectMode hy
  · exact Xt.grows_selectMode hy
  · exact Xt.grows_ackRule hy
  · exact Xt.grows_nakRule hy
  · obtain ⟨-, rfl⟩ := Xt.canRule_cases hy
    exact Channel.grows_txPush_evPush _ _
  · obtain rfl := Option.some.inj hy
    rw [Xt.discardByte_chan]
    exact .refl _

theorem Xt.grows_ticked (c : Config) (x : Xt) : x.chan.Grows (x.ticked c).chan := by
  unfold Xt.ticked
  cases ht : x.tick c with
  | none => exact .refl _
  | some g =>
    obtain ⟨-, rfl⟩ | ⟨-, -, rfl⟩ | ⟨-, -, -, rfl⟩ := Xt.tick_cases ht
    · exact .refl _
    · exact .refl _
    · exact Channel.grows_txPush_evPush _ _

theorem Xt.emit_chan (hy : x.emit c = some y) : ∃ p, y.chan = x.chan.txPush [p] := by
  obtain ⟨-, ⟨-, rfl⟩ | ⟨-, rfl⟩ | ⟨-, rfl⟩ | ⟨-, data⟩ | ⟨-, rfl⟩⟩ := Xt.emit_cases hy
  · exact ⟨_, rfl⟩
  · exact ⟨_, rfl⟩
  · exact ⟨_, rfl⟩
  · unfold Xt.emitData at data
    cases hb : x.buf[x.sent.toNat]? with
    | none => rw [hb] at data; cases data
    | some b =>
      rw [hb] at data
      obtain rfl := Option.some.inj data
      exact ⟨b, by dsimp only; split <;> rfl⟩
  · cases hm : x.mode with
    | checksum => exact ⟨_, by rw [Xt.emitChecksum_checksum hm]; rfl⟩
    | crc =>
      cases ht : x.tidx with
      | false => exact ⟨_, by rw [Xt.emitChecksum_crc_first hm ht]; rfl⟩
      | true => exact ⟨_, by rw [Xt.emitChecksum_crc_second hm ht]; rfl⟩

theorem Xt.grows_emitted (c : Config) (x : Xt) : x.chan.Grows (x.emitted c).chan := by
  unfold Xt.emitted
  cases he : x.emit c with
  | none => exact .refl _
  | some y =>
    obtain ⟨p, hp⟩ := Xt.emit_chan he
    show x.chan.Grows y.chan
    rw [hp]
    exact Channel.grows_txPush _

end

end Sys2Proof.Machine
end

section
/-! Byte steps are wholly taken or not at all (R73, R78), one record per step at most (R343), one reply per packet
(R179). -/
namespace Sys2Proof.Machine

section
variable {s t : State} {turn : Turn}

theorem fe_after_of_takeTurn (h : takeTurn turn s = .next t) : t.fe = s.fe.after s.cfg s.ticks.fe turn :=
  congrArg State.fe (after_of_takeTurn h)

theorem xr_after_of_takeTurn (h : takeTurn turn s = .next t) : t.xr = s.xr.after s.cfg s.ticks.xr turn :=
  congrArg State.xr (after_of_takeTurn h)

theorem xt_after_of_takeTurn (h : takeTurn turn s = .next t) : t.xt = s.xt.after s.cfg s.ticks.xt turn :=
  congrArg State.xt (after_of_takeTurn h)

/-! ## Byte steps -/

/-- A byte step changes nothing, or consumes the head byte of its unit after appending to that unit's queues. -/
theorem takeTurn_byteStep_cases {u : UnitId} (h : takeTurn (.byteStep u) s = .next t) :
    t = s ∨ ∃ b ch, (s.chanOf u).rxHead = some b ∧ (s.chanOf u).Grows ch ∧ t.chanOf u = ch.consume s.cfg := by
  cases u with
  | fe =>
    obtain rfl := Host.Outcome.next.inj ((takeTurn_fe_eq s).symm.trans h)
    obtain same | ⟨b, g, hb, hg, taken⟩ := s.fe.byteStep_cases s.cfg
    · exact .inl (by rw [same]; rfl)
    · exact .inr ⟨b, g.chan, hb, Fe.grows_byteRule hg, by rw [taken]; rfl⟩
  | xr =>
    obtain rfl := Host.Outcome.next.inj ((takeTurn_xr_eq s).symm.trans h)
    obtain same | ⟨b, y, hb, hy, taken⟩ := s.xr.byteStep_cases s.cfg
    · exact .inl (by rw [same]; rfl)
    · exact .inr ⟨b, y.chan, hb, Xr.grows_byteRule hy, by rw [taken]; rfl⟩
  | xt =>
    obtain rfl := Host.Outcome.next.inj ((takeTurn_xt_eq s).symm.trans h)
    obtain same | ⟨b, y, hb, hy, taken⟩ := s.xt.byteStep_cases s.cfg
    · exact .inl (by rw [same]; rfl)
    · exact .inr ⟨b, y.chan, hb, Xt.grows_byteRule hy, by rw [taken]; rfl⟩

/-! ## At most one record -/

/-- The event queue keeps its records and gets at most one more. -/
def Channel.PostsOneAtMost (ch ch' : Channel) : Prop := ∃ q, q.length ≤ 1 ∧ ch'.evq = ch.evq ++ q

theorem Channel.PostsOneAtMost.kept {ch ch' : Channel} (h : ch'.evq = ch.evq) : ch.PostsOneAtMost ch' :=
  ⟨[], Nat.zero_le _, by rw [h, List.append_nil]⟩

theorem Channel.Grows.posts {ch grown ch' : Channel} (h : ch.Grows grown) (kept : ch'.evq = grown.evq) :
    ch.PostsOneAtMost ch' := by
  obtain ⟨p, q, one, rfl⟩ := h
  exact ⟨q, one, kept⟩

/-- Each event queue keeps its records, and at most one record is added in all. -/
def OneRecordAtMost (s t : State) : Prop :=
  ∃ a b c : List Event, t.fe.chan.evq = s.fe.chan.evq ++ a ∧ t.xr.chan.evq = s.xr.chan.evq ++ b ∧
    t.xt.chan.evq = s.xt.chan.evq ++ c ∧ a.length + b.length + c.length ≤ 1

theorem oneRecordAtMost_of_kept (fe : t.fe.chan.evq = s.fe.chan.evq) (xr : t.xr.chan.evq = s.xr.chan.evq)
    (xt : t.xt.chan.evq = s.xt.chan.evq) : OneRecordAtMost s t :=
  ⟨[], [], [], by rw [fe, List.append_nil], by rw [xr, List.append_nil], by rw [xt, List.append_nil], Nat.zero_le _⟩

theorem oneRecordAtMost_of_fe (fe : s.fe.chan.PostsOneAtMost t.fe.chan) (xr : t.xr = s.xr) (xt : t.xt = s.xt) :
    OneRecordAtMost s t := by
  obtain ⟨q, one, grown⟩ := fe
  exact ⟨q, [], [], by rw [grown], by rw [xr, List.append_nil], by rw [xt, List.append_nil], one⟩

theorem oneRecordAtMost_of_xr (xr : s.xr.chan.PostsOneAtMost t.xr.chan) (fe : t.fe = s.fe) (xt : t.xt = s.xt) :
    OneRecordAtMost s t := by
  obtain ⟨q, one, grown⟩ := xr
  exact ⟨[], q, [], by rw [fe, List.append_nil], by rw [grown], by rw [xt, List.append_nil], by simpa using one⟩

theorem oneRecordAtMost_of_xt (xt : s.xt.chan.PostsOneAtMost t.xt.chan) (fe : t.fe = s.fe) (xr : t.xr = s.xr) :
    OneRecordAtMost s t := by
  obtain ⟨q, one, grown⟩ := xt
  exact ⟨[], [], q, by rw [fe, List.append_nil], by rw [xr, List.append_nil], by rw [grown], by simpa using one⟩

/-! ### Host commands post nothing -/

theorem Fe.obey_evq (c : Config) (f : Fe) {i : Instr} (h : ∀ u, i ≠ .evPop u) : (f.obey c i).chan.evq = f.chan.evq := by
  cases i with
  | evPop u => exact absurd rfl (h u)
  | regWrite reg v => show (ite _ _ _ : Fe).chan.evq = _; split <;> rfl
  | feSend type len bytes => show (ite _ _ _ : Fe).chan.evq = _; split <;> rfl
  | _ => rfl

theorem Xr.obey_evq (c : Config) (x : Xr) {i : Instr} (h : ∀ u, i ≠ .evPop u) : (x.obey c i).chan.evq = x.chan.evq := by
  cases i with
  | evPop u => exact absurd rfl (h u)
  | xrStart mode => show (ite _ _ _ : Xr).chan.evq = _; split <;> rfl
  | xrCancel => show (ite _ _ _ : Xr).chan.evq = _; split <;> rfl
  | _ => rfl

theorem Xt.obey_evq (c : Config) (x : Xt) {i : Instr} (h : ∀ u, i ≠ .evPop u) : (x.obey c i).chan.evq = x.chan.evq := by
  cases i with
  | evPop u => exact absurd rfl (h u)
  | xtStart => show (ite _ _ _ : Xt).chan.evq = _; split <;> rfl
  | xtSendFrame n bytes => show (ite _ _ _ : Xt).chan.evq = _; split <;> rfl
  | xtOver => show (ite _ _ _ : Xt).chan.evq = _; split <;> rfl
  | xtCancel => show (ite _ _ _ : Xt).chan.evq = _; split <;> rfl
  | _ => rfl

theorem fe_after_command {k : Command} {i : Instr} (hd : decode (.command k) = .instr i) (c : Config) (n : Nat) (f : Fe) :
    f.after c n (.command k) = f.obey c i := by simp only [Fe.after, hd]

theorem xr_after_command {k : Command} {i : Instr} (hd : decode (.command k) = .instr i) (c : Config) (n : Nat) (x : Xr) :
    x.after c n (.command k) = x.obey c i := by simp only [Xr.after, hd]

theorem xt_after_command {k : Command} {i : Instr} (hd : decode (.command k) = .instr i) (c : Config) (n : Nat) (x : Xt) :
    x.after c n (.command k) = x.obey c i := by simp only [Xt.after, hd]

/-- EV_POP removes the head record of one queue and leaves the other units (R322). -/
def PopsOneRecord (s t : State) : Prop :=
  ∃ e, (s.fe.chan.evq = e :: t.fe.chan.evq ∧ t.xr = s.xr ∧ t.xt = s.xt) ∨
    (s.xr.chan.evq = e :: t.xr.chan.evq ∧ t.fe = s.fe ∧ t.xt = s.xt) ∨
    (s.xt.chan.evq = e :: t.xt.chan.evq ∧ t.fe = s.fe ∧ t.xr = s.xr)

theorem exec_evPop_cases {unit : Byte} (h : exec (.evPop unit) s = .next t) : OneRecordAtMost s t ∨ PopsOneRecord s t := by
  cases hu : unitOf unit with
  | none =>
    obtain rfl := Host.Outcome.next.inj ((exec_evPop_of_no_unit hu).symm.trans h)
    exact .inl (oneRecordAtMost_of_kept rfl rfl rfl)
  | some u =>
    cases hq : (s.chanOf u).evq with
    | nil =>
      obtain rfl := Host.Outcome.next.inj ((exec_evPop_of_empty hu hq).symm.trans h)
      exact .inl (oneRecordAtMost_of_kept rfl rfl rfl)
    | cons e es =>
      obtain rfl := Host.Outcome.next.inj ((exec_evPop_of_head hu hq).symm.trans h)
      cases u with
      | fe => exact .inr ⟨e, .inl ⟨hq, rfl, rfl⟩⟩
      | xr => exact .inr ⟨e, .inr (.inl ⟨hq, rfl, rfl⟩)⟩
      | xt => exact .inr ⟨e, .inr (.inr ⟨hq, rfl, rfl⟩)⟩

theorem oneRecordAtMost_of_command {k : Command} {i : Instr} (hd : decode (.command k) = .instr i)
    (notPop : ∀ u, i ≠ .evPop u) (h : takeTurn (.command k) s = .next t) : OneRecordAtMost s t := by
  refine oneRecordAtMost_of_kept ?_ ?_ ?_
  · rw [fe_after_of_takeTurn h, fe_after_command hd, Fe.obey_evq _ _ notPop]
  · rw [xr_after_of_takeTurn h, xr_after_command hd, Xr.obey_evq _ _ notPop]
  · rw [xt_after_of_takeTurn h, xt_after_command hd, Xt.obey_evq _ _ notPop]

/-! ### The other turns -/

theorem Fe.byteStep_posts (c : Config) (f : Fe) : f.chan.PostsOneAtMost (f.byteStep c).chan := by
  obtain same | ⟨b, g, -, hg, taken⟩ := f.byteStep_cases c
  · exact .kept (by rw [same])
  · exact (Fe.grows_byteRule hg).posts (by rw [taken]; rfl)

theorem Xr.byteStep_posts (c : Config) (x : Xr) : x.chan.PostsOneAtMost (x.byteStep c).chan := by
  obtain same | ⟨b, y, -, hy, taken⟩ := x.byteStep_cases c
  · exact .kept (by rw [same])
  · exact (Xr.grows_byteRule hy).posts (by rw [taken]; rfl)

theorem Xt.byteStep_posts (c : Config) (x : Xt) : x.chan.PostsOneAtMost (x.byteStep c).chan := by
  obtain same | ⟨b, y, -, hy, taken⟩ := x.byteStep_cases c
  · exact .kept (by rw [same])
  · exact (Xt.grows_byteRule hy).posts (by rw [taken]; rfl)

/-- A tick tried again does what a tick does, or nothing. -/
theorem posts_retry {ch ticked : Channel} {p : Prop} [Decidable p] (h : ch.Grows ticked) :
    ch.PostsOneAtMost (if p then ch else ticked) := by
  split
  · exact .kept rfl
  · exact h.posts rfl

/-- Outside commands and reset a turn is one unit's own, and that unit's step posts at most one record. -/
theorem oneRecordAtMost_after (s : State) {turn : Turn} (notCommand : ∀ k, turn ≠ .command k)
    (notReset : turn ≠ .reset) : OneRecordAtMost s (s.after turn) := by
  cases turn with
  | command k => exact absurd rfl (notCommand k)
  | reset => exact absurd rfl notReset
  | rxPush u b =>
    cases u with
    | fe => exact oneRecordAtMost_of_fe (.kept (Channel.rxPush_evq _ _ _)) rfl rfl
    | xr => exact oneRecordAtMost_of_xr (.kept (Channel.rxPush_evq _ _ _)) rfl rfl
    | xt => exact oneRecordAtMost_of_xt (.kept (Channel.rxPush_evq _ _ _)) rfl rfl
  | txPop u => cases u <;> exact oneRecordAtMost_of_kept rfl rfl rfl
  | byteStep u =>
    cases u with
    | fe => exact oneRecordAtMost_of_fe (s.fe.byteStep_posts s.cfg) rfl rfl
    | xr => exact oneRecordAtMost_of_xr (s.xr.byteStep_posts s.cfg) rfl rfl
    | xt => exact oneRecordAtMost_of_xt (s.xt.byteStep_posts s.cfg) rfl rfl
  | tick u =>
    cases u with
    | fe => exact oneRecordAtMost_of_fe ((s.fe.grows_ticked s.cfg).posts rfl) rfl rfl
    | xr => exact oneRecordAtMost_of_xr ((s.xr.grows_ticked s.cfg).posts rfl) rfl rfl
    | xt => exact oneRecordAtMost_of_xt ((s.xt.grows_ticked s.cfg).posts rfl) rfl rfl
  | retryTick u =>
    cases u with
    | fe =>
      refine oneRecordAtMost_of_fe ?_ rfl rfl
      show s.fe.chan.PostsOneAtMost (ite _ _ _ : Fe).chan
      rw [apply_ite Fe.chan]
      exact posts_retry (s.fe.grows_ticked s.cfg)
    | xr =>
      refine oneRecordAtMost_of_xr ?_ rfl rfl
      show s.xr.chan.PostsOneAtMost (ite _ _ _ : Xr).chan
      rw [apply_ite Xr.chan]
      exact posts_retry (s.xr.grows_ticked s.cfg)
    | xt =>
      refine oneRecordAtMost_of_xt ?_ rfl rfl
      show s.xt.chan.PostsOneAtMost (ite _ _ _ : Xt).chan
      rw [apply_ite Xt.chan]
      exact posts_retry (s.xt.grows_ticked s.cfg)
  | emit => exact oneRecordAtMost_of_xt ((s.xt.grows_emitted s.cfg).posts rfl) rfl rfl

theorem oneRecordAtMost_of_port (notCommand : ∀ k, turn ≠ .command k) (notReset : turn ≠ .reset)
    (h : takeTurn turn s = .next t) : OneRecordAtMost s t := by
  rw [after_of_takeTurn h]
  exact oneRecordAtMost_after s notCommand notReset

end

end Sys2Proof.Machine

namespace Sys2Proof.Proofs
open Sys2Proof.Machine

/-- Settles O51: a byte step that is taken consumes the head byte of a channel that has only grown. -/
theorem byteStepsAreAllOrNothing : Obligations.ByteStepsAreAllOrNothing := by
  intro s t u h
  obtain same | ⟨b, ch, hb, ⟨p, q, -, grown⟩, taken⟩ := takeTurn_byteStep_cases h
  · exact .inl same
  · rw [taken, grown]
    exact .inr ⟨⟨b, hb⟩, rfl, rfl, rfl, rfl, ⟨p, rfl⟩, ⟨q, rfl⟩⟩

/-- Settles O52: a command posts nothing, EV_POP removes one record, and any other turn is one unit's own. -/
theorem atMostOneEventPerStep : Obligations.AtMostOneEventPerStep := by
  intro s t turn notReset h
  by_cases isCommand : ∃ k, turn = .command k
  case neg => exact .inl (oneRecordAtMost_of_port (not_exists.mp isCommand) notReset h)
  obtain ⟨k, rfl⟩ := isCommand
  cases hd : decode (.command k) with
  | reject r =>
    obtain rfl := Host.Outcome.next.inj ((takeTurn_of_reject rfl hd).symm.trans h)
    exact .inl (oneRecordAtMost_of_kept rfl rfl rfl)
  | instr i =>
    by_cases isPop : ∃ u, i = .evPop u
    case neg => exact .inl (oneRecordAtMost_of_command hd (not_exists.mp isPop) h)
    obtain ⟨u, rfl⟩ := isPop
    rw [takeTurn_of_instr rfl hd] at h
    exact (exec_evPop_cases h).imp_right fun popped => ⟨k, u, rfl, hd, popped⟩

/-- Settles O26: the parser is inside a packet, so the byte's rule keeps it open or replies once. -/
theorem feRepliesExactlyOncePerPacket : Obligations.FeRepliesExactlyOncePerPacket := by
  intro s t notStart notType h
  obtain rfl := Host.Outcome.next.inj ((takeTurn_fe_eq s).symm.trans h)
  obtain same | ⟨b, g, -, hg, taken⟩ := s.fe.byteStep_cases s.cfg
  · exact .inl (by rw [same]; rfl)
  · have rule : s.fe.dataByte s.cfg b = some g := (if_neg notType).symm.trans hg
    rw [taken]
    obtain ⟨stillNotStart, stillNotType, kept⟩ | ⟨start, r, hr, replied⟩ := Fe.dataByte_cases notStart rule
    · exact .inr (.inl ⟨stillNotStart, stillNotType, (congrArg Channel.txq kept :)⟩)
    · exact .inr (.inr ⟨start, r, hr, congrArg Channel.txq replied⟩)

end Sys2Proof.Proofs
end

section
/-!
The sequence numbers (R241, R295): XR's goes up with an accepted frame only, XT's with an acknowledged one. Outside a
transfer a unit rests until its start command (R349).
-/
namespace Sys2Proof.Machine

/-! ## XR's expected number -/

section
variable {c : Config} {x y : Xr} {b : Byte}

/-- The event queue of `y` holds no frame that `x`'s does not. -/
def Xr.NoNewFrame (x y : Xr) : Prop := ∀ q z d, Event.xrFrame q z d ∈ y.chan.evq → Event.xrFrame q z d ∈ x.chan.evq

/-- The step accepts no frame: the expected number stays and no XR_FRAME is posted. -/
def Xr.AcceptsNone (x y : Xr) : Prop := y.expectedSeq = x.expectedSeq ∧ x.NoNewFrame y

/-- The step accepts the expected frame: one XR_FRAME, one ACK, the number up by one (R237). -/
def Xr.AcceptsOne (x y : Xr) : Prop :=
  y.expectedSeq = x.expectedSeq + 1 ∧ y.chan.txq = x.chan.txq ++ [0x06] ∧
    ∃ z d, y.chan.evq = x.chan.evq ++ [.xrFrame x.expectedSeq z d]

theorem Xr.NoNewFrame.quiet (h : y.chan.evq = x.chan.evq) : x.NoNewFrame y := by
  intro q z d
  rw [h]
  exact id

theorem Xr.NoNewFrame.posted {e : Event} (h : y.chan.evq = x.chan.evq ++ [e]) (other : ∀ q z d, .xrFrame q z d ≠ e) :
    x.NoNewFrame y := by
  intro q z d mem
  rw [h, List.mem_append, List.mem_singleton] at mem
  exact mem.resolve_right (other q z d)

theorem Xr.AcceptsNone.quiet (seq : y.expectedSeq = x.expectedSeq) (h : y.chan.evq = x.chan.evq) : x.AcceptsNone y :=
  ⟨seq, .quiet h⟩

theorem Xr.AcceptsNone.posted {e : Event} (seq : y.expectedSeq = x.expectedSeq) (h : y.chan.evq = x.chan.evq ++ [e])
    (other : ∀ q z d, .xrFrame q z d ≠ e) : x.AcceptsNone y :=
  ⟨seq, .posted h other⟩

theorem Xr.acceptsNone_of_eotRule (hy : x.eotRule c = some y) : x.AcceptsNone y := by
  obtain ⟨-, -, rfl⟩ := Xr.eotRule_cases hy
  exact .posted rfl rfl nofun

theorem Xr.acceptsNone_of_canRule (hy : x.canRule c = some y) : x.AcceptsNone y := by
  obtain ⟨-, rfl⟩ := Xr.canRule_cases hy
  exact .posted rfl rfl nofun

theorem Xr.acceptsNone_of_failurePath (hy : x.failurePath c = some y) : x.AcceptsNone y := by
  obtain ⟨-, -, rfl⟩ | ⟨-, -, rfl⟩ := Xr.failurePath_cases hy
  · exact .posted rfl rfl nofun
  · exact .quiet rfl rfl

theorem Xr.accepts_of_validate (hy : x.validate c = some y) : x.AcceptsOne y ∨ x.AcceptsNone y := by
  obtain ⟨seq, -, good⟩ | ⟨-, bad⟩ := Xr.validate_cases hy
  · obtain ⟨-, -, rfl⟩ := Xr.accept_cases good
    exact .inl ⟨rfl, rfl, _, _, by rw [← seq]; rfl⟩
  · exact .inr (Xr.acceptsNone_of_failurePath (x := { x with count := 0, tcount := 0 }) bad)

theorem Xr.acceptsNone_of_complementByte (hy : x.complementByte c b = some y) : x.AcceptsNone y := by
  unfold Xr.complementByte Xr.errorByte at hy
  split_ifs at hy
  · obtain rfl := Option.some.inj hy; exact .quiet rfl rfl
  · exact Xr.acceptsNone_of_canRule hy
  · exact Xr.acceptsNone_of_eotRule hy
  · obtain rfl := Option.some.inj hy; exact .quiet rfl rfl
  · exact Xr.acceptsNone_of_failurePath hy

theorem Xr.storeTrailer_expectedSeq (x : Xr) (b : Byte) : (x.storeTrailer b).expectedSeq = x.expectedSeq := by
  unfold Xr.storeTrailer
  split <;> rfl

theorem Xr.accepts_of_receiveByte (hy : x.receiveByte c b = some y) : x.AcceptsOne y ∨ x.AcceptsNone y := by
  unfold Xr.receiveByte at hy
  dsimp only at hy
  split_ifs at hy
  · obtain rfl := Option.some.inj hy
    exact .inr (.quiet rfl rfl)
  · have accepts := Xr.accepts_of_validate (x := { x.storeTrailer b with tcount := _ }) hy
    simp only [Xr.AcceptsOne, Xr.AcceptsNone, Xr.NoNewFrame, Xr.storeTrailer_chan, Xr.storeTrailer_expectedSeq] at accepts
    exact accepts
  · obtain rfl := Option.some.inj hy
    exact .inr (.quiet (x.storeTrailer_expectedSeq b) (congrArg Channel.evq (x.storeTrailer_chan b)))

theorem Xr.accepts_of_byteRule (hy : x.byteRule c b = some y) : x.AcceptsOne y ∨ x.AcceptsNone y := by
  unfold Xr.byteRule Xr.headerByte at hy
  split_ifs at hy
  · obtain rfl := Option.some.inj hy; exact .inr (.quiet rfl rfl)
  · obtain rfl := Option.some.inj hy; exact .inr (.quiet rfl rfl)
  · exact .inr (Xr.acceptsNone_of_eotRule hy)
  · exact .inr (Xr.acceptsNone_of_canRule hy)
  · obtain rfl := Option.some.inj hy; exact .inr (.quiet rfl rfl)
  · unfold Xr.dataByte at hy
    split at hy
    case h_5 => cases hy
    case h_7 => exact .inr (Xr.acceptsNone_of_complementByte hy)
    case h_8 => exact Xr.accepts_of_receiveByte hy
    all_goals obtain rfl := Option.some.inj hy; exact .inr (.quiet rfl rfl)

theorem Xr.accepts_of_byteStep (c : Config) (x : Xr) : x.AcceptsOne (x.byteStep c) ∨ x.AcceptsNone (x.byteStep c) := by
  obtain same | ⟨b, y, -, hy, taken⟩ := x.byteStep_cases c
  · exact .inr (.quiet (by rw [same]) (by rw [same]))
  · rw [taken]
    exact (Xr.accepts_of_byteRule hy :)

theorem Xr.acceptsNone_of_ticked (c : Config) (x : Xr) : x.AcceptsNone (x.ticked c) := by
  unfold Xr.ticked
  cases ht : x.tick c with
  | none => exact .quiet rfl rfl
  | some y =>
    obtain ⟨-, rfl⟩ | ⟨-, -, rfl⟩ | ⟨-, -, rfl⟩ := Xr.tick_cases ht
    · exact .quiet rfl rfl
    · exact .quiet rfl rfl
    · exact .posted rfl rfl nofun

/-- The number starts at 1 again, with no frame posted. -/
def Xr.Restarts (x y : Xr) : Prop := y.expectedSeq = 1 ∧ x.NoNewFrame y

theorem Xr.restarts_or_acceptsNone_of_obey (c : Config) (x : Xr) (i : Instr) :
    x.AcceptsNone (x.obey c i) ∨ (x.Restarts (x.obey c i) ∧ ∃ m, i = .xrStart m) := by
  cases i with
  | xrStart mode =>
    show x.AcceptsNone (ite _ _ _ : Xr) ∨ (x.Restarts (ite _ _ _ : Xr) ∧ _)
    split
    · exact .inr ⟨⟨rfl, .quiet rfl⟩, mode, rfl⟩
    · exact .inl (.quiet rfl rfl)
  | evPop unit =>
    refine .inl ?_
    show x.AcceptsNone (ite _ _ _ : Xr)
    split
    · exact ⟨rfl, fun q z d mem => List.mem_of_mem_tail mem⟩
    · exact .quiet rfl rfl
  | xrCancel =>
    refine .inl ?_
    show x.AcceptsNone (ite _ _ _ : Xr)
    split <;> exact .quiet rfl rfl
  | _ => exact .inl (.quiet rfl rfl)

/-- The turns after which the number may be 1: reset and XR_START. -/
def XrStarts (turn : Turn) : Prop :=
  turn = .reset ∨ ∃ (k : Command) (m : Byte), turn = .command k ∧ decode (.command k) = .instr (.xrStart m)

/-- Over every turn: no frame, a fresh start, or a byte step that accepts the expected frame (R241). -/
theorem Xr.accepts_of_after (c : Config) (n : Nat) (x : Xr) (turn : Turn) :
    x.AcceptsNone (x.after c n turn) ∨ (x.Restarts (x.after c n turn) ∧ XrStarts turn) ∨
      (x.AcceptsOne (x.after c n turn) ∧ turn = .byteStep .xr) := by
  cases turn with
  | command k =>
    cases hd : decode (.command k) with
    | reject r => exact .inl (.quiet (by simp only [Xr.after, hd]) (by simp only [Xr.after, hd]))
    | instr i =>
      rw [xr_after_command hd]
      obtain none | ⟨restarts, m, rfl⟩ := x.restarts_or_acceptsNone_of_obey c i
      · exact .inl none
      · exact .inr (.inl ⟨restarts, .inr ⟨k, m, rfl, hd⟩⟩)
  | reset => exact .inr (.inl ⟨⟨rfl, fun q z d mem => absurd mem List.not_mem_nil⟩, .inl rfl⟩)
  | byteStep u =>
    cases u with
    | xr =>
      obtain one | none := x.accepts_of_byteStep c
      · exact .inr (.inr ⟨one, rfl⟩)
      · exact .inl none
    | _ => exact .inl (.quiet rfl rfl)
  | rxPush u b =>
    cases u with
    | xr => exact .inl (.quiet rfl (Channel.rxPush_evq _ _ _))
    | _ => exact .inl (.quiet rfl rfl)
  | tick u =>
    cases u with
    | xr => exact .inl (x.acceptsNone_of_ticked c)
    | _ => exact .inl (.quiet rfl rfl)
  | retryTick u =>
    cases u with
    | xr =>
      refine .inl ?_
      show x.AcceptsNone (ite _ _ _ : Xr)
      split
      · exact .quiet rfl rfl
      · exact x.acceptsNone_of_ticked c
    | _ => exact .inl (.quiet rfl rfl)
  | txPop u => cases u <;> exact .inl (.quiet rfl rfl)
  | emit => exact .inl (.quiet rfl rfl)

end

/-! ## XT's number -/

section
variable {c : Config} {x y : Xt} {b : Byte}

/-- The step takes the acknowledgement of the frame XT sent (R289). -/
def Xt.FrameAcked (x y : Xt) : Prop :=
  x.state = .awaitAck ∧ y.seq = x.seq + 1 ∧ ∃ n l, y.chan.evq = x.chan.evq ++ [.xtAcked x.seq n l]

theorem Xt.seq_of_exhausted (hy : x.exhausted c = some y) : y.seq = x.seq := by
  obtain ⟨-, -, rfl⟩ := Xt.exhausted_cases hy
  rfl

theorem Xt.seq_of_ackRule (hy : x.ackRule c = some y) : y.seq = x.seq ∨ x.FrameAcked y := by
  unfold Xt.ackRule at hy
  split at hy
  case isTrue hs =>
    obtain ⟨-, ⟨-, -, rfl⟩ | ⟨-, rfl⟩⟩ := Xt.frameAcked_cases hy
    · exact .inr ⟨hs, rfl, _, _, rfl⟩
    · exact .inr ⟨hs, rfl, _, _, rfl⟩
  case isFalse =>
    obtain ⟨-, rfl⟩ := Xt.eotAcked_cases hy
    exact .inl rfl

theorem Xt.seq_of_nakRule (hy : x.nakRule c = some y) : y.seq = x.seq := by
  unfold Xt.nakRule at hy
  split at hy
  · obtain ⟨-, spent⟩ | ⟨-, rfl⟩ := Xt.frameNaked_cases hy
    · exact Xt.seq_of_exhausted spent
    · rfl
  · obtain ⟨-, spent⟩ | ⟨-, -, rfl⟩ := Xt.eotNaked_cases hy
    · exact Xt.seq_of_exhausted spent
    · rfl

theorem Xt.seq_of_selectMode {m : CheckMode} (hy : x.selectMode m c = some y) : y.seq = x.seq := by
  obtain ⟨-, rfl⟩ := Xt.selectMode_cases hy
  rfl

theorem Xt.discardByte_seq (c : Config) (x : Xt) : (x.discardByte c).seq = x.seq := by
  unfold Xt.discardByte
  split <;> rfl

theorem Xt.seq_of_byteRule (hy : x.byteRule c b = some y) : y.seq = x.seq ∨ x.FrameAcked y := by
  unfold Xt.byteRule at hy
  split_ifs at hy
  · exact .inl (Xt.seq_of_selectMode hy)
  · exact .inl (Xt.seq_of_selectMode hy)
  · exact Xt.seq_of_ackRule hy
  · exact .inl (Xt.seq_of_nakRule hy)
  · obtain ⟨-, rfl⟩ := Xt.canRule_cases hy
    exact .inl rfl
  · obtain rfl := Option.some.inj hy
    exact .inl (x.discardByte_seq c)

theorem Xt.seq_of_byteStep (c : Config) (x : Xt) : (x.byteStep c).seq = x.seq ∨ x.FrameAcked (x.byteStep c) := by
  obtain same | ⟨b, y, -, hy, taken⟩ := x.byteStep_cases c
  · exact .inl (by rw [same])
  · rw [taken]
    exact (Xt.seq_of_byteRule hy :)

theorem Xt.seq_of_ticked (c : Config) (x : Xt) : (x.ticked c).seq = x.seq := by
  unfold Xt.ticked
  cases ht : x.tick c with
  | none => rfl
  | some y =>
    obtain ⟨-, rfl⟩ | ⟨-, -, rfl⟩ | ⟨-, -, -, rfl⟩ := Xt.tick_cases ht <;> rfl

theorem Xt.emitData_seq (hy : x.emitData = some y) : y.seq = x.seq := by
  unfold Xt.emitData at hy
  split at hy
  · cases hy
  · obtain rfl := Option.some.inj hy
    dsimp only
    split <;> rfl

theorem Xt.emitChecksum_seq (c : Config) (x : Xt) : (x.emitChecksum c).seq = x.seq := by
  cases hm : x.mode with
  | checksum => rw [Xt.emitChecksum_checksum hm]; rfl
  | crc =>
    cases ht : x.tidx with
    | false => rw [Xt.emitChecksum_crc_first hm ht]; rfl
    | true => rw [Xt.emitChecksum_crc_second hm ht]; rfl

theorem Xt.seq_of_emitted (c : Config) (x : Xt) : (x.emitted c).seq = x.seq := by
  unfold Xt.emitted
  cases he : x.emit c with
  | none => rfl
  | some y =>
    obtain ⟨-, ⟨-, rfl⟩ | ⟨-, rfl⟩ | ⟨-, rfl⟩ | ⟨-, data⟩ | ⟨-, rfl⟩⟩ := Xt.emit_cases he
    · rfl
    · rfl
    · rfl
    · exact Xt.emitData_seq data
    · exact x.emitChecksum_seq c

theorem Xt.seq_of_obey (c : Config) (x : Xt) (i : Instr) :
    (x.obey c i).seq = x.seq ∨ ((x.obey c i).seq = 1 ∧ i = .xtStart) := by
  cases i with
  | xtStart =>
    show (ite _ _ _ : Xt).seq = _ ∨ ((ite _ _ _ : Xt).seq = _ ∧ _)
    split
    · exact .inr ⟨rfl, rfl⟩
    · exact .inl rfl
  | evPop unit => left; show (ite _ _ _ : Xt).seq = _; split <;> rfl
  | xtSendFrame n bytes => left; show (ite _ _ _ : Xt).seq = _; split <;> rfl
  | xtOver => left; show (ite _ _ _ : Xt).seq = _; split <;> rfl
  | xtCancel => left; show (ite _ _ _ : Xt).seq = _; split <;> rfl
  | _ => exact .inl rfl

/-- The turns after which XT's number may be 1: reset and XT_START. -/
def XtStarts (turn : Turn) : Prop := turn = .reset ∨ ∃ k, turn = .command k ∧ decode (.command k) = .instr .xtStart

/-- Over every turn: the number stays, starts again, or goes up with the acknowledgement (R295). -/
theorem Xt.seq_of_after (c : Config) (n : Nat) (x : Xt) (turn : Turn) :
    (x.after c n turn).seq = x.seq ∨ ((x.after c n turn).seq = 1 ∧ XtStarts turn) ∨
      (x.FrameAcked (x.after c n turn) ∧ turn = .byteStep .xt) := by
  cases turn with
  | command k =>
    cases hd : decode (.command k) with
    | reject r => exact .inl (by simp only [Xt.after, hd])
    | instr i =>
      rw [xt_after_command hd]
      obtain same | ⟨one, rfl⟩ := x.seq_of_obey c i
      · exact .inl same
      · exact .inr (.inl ⟨one, .inr ⟨k, rfl, hd⟩⟩)
  | reset => exact .inr (.inl ⟨rfl, .inl rfl⟩)
  | byteStep u =>
    cases u with
    | xt => exact (x.seq_of_byteStep c).imp_right fun acked => .inr ⟨acked, rfl⟩
    | _ => exact .inl rfl
  | tick u =>
    cases u with
    | xt => exact .inl (x.seq_of_ticked c)
    | _ => exact .inl rfl
  | retryTick u =>
    cases u with
    | xt =>
      left
      show (ite _ _ _ : Xt).seq = _
      split
      · rfl
      · exact x.seq_of_ticked c
    | _ => exact .inl rfl
  | emit => exact .inl (x.seq_of_emitted c)
  | rxPush u b => cases u <;> exact .inl rfl
  | txPop u => cases u <;> exact .inl rfl

end

end Sys2Proof.Machine

namespace Sys2Proof.Proofs
open Sys2Proof.Machine

/-- Settles O38: the three ways a turn can leave XR's expected number and its XR_FRAME records. -/
theorem xrSequenceAdvancesOncePerFrame : Obligations.XrSequenceAdvancesOncePerFrame := by
  intro s t turn h
  rw [xr_after_of_takeTurn h]
  obtain ⟨same, none⟩ | ⟨⟨one, none⟩, starts⟩ | ⟨⟨up, ack, z, d, posted⟩, rfl⟩ :=
    s.xr.accepts_of_after s.cfg s.ticks.xr turn
  · exact ⟨.inl same, fun q z d mem => .inl (none q z d mem), fun _ moved => absurd same moved⟩
  · refine ⟨.inr (.inl ⟨one, starts⟩), fun q z d mem => .inl (none q z d mem), ?_⟩
    rintro rfl
    obtain isReset | ⟨k, m, isCommand, -⟩ := starts
    · cases isReset
    · cases isCommand
  · refine ⟨.inr (.inr ⟨up, rfl⟩), fun q z' d' mem => ?_, fun _ _ => ⟨z, d, posted, ack⟩⟩
    rw [posted, List.mem_append, List.mem_singleton] at mem
    obtain old | new := mem
    · exact .inl old
    · cases new
      exact .inr ⟨rfl, rfl, up, posted, ack⟩

/-- Settles O48: the three ways a turn can leave XT's number. -/
theorem xtSequenceAdvancesOncePerAck : Obligations.XtSequenceAdvancesOncePerAck := by
  intro s t turn h
  rw [xt_after_of_takeTurn h]
  obtain same | starts | ⟨⟨hs, up, posted⟩, isByte⟩ := s.xt.seq_of_after s.cfg s.ticks.xt turn
  · exact .inl same
  · exact .inr (.inl starts)
  · exact .inr (.inr ⟨up, isByte, hs, posted⟩)

end Sys2Proof.Proofs
end

section
/-!
Units at rest (R349): outside a transfer XR and XT have their timers off and no frame to emit, so that until the start
command a turn can do no more than take from their queues. With it, ticks that are held (R64, log 8).
-/
namespace Sys2Proof.Machine

/-- `ch'` is `ch` with nothing new in its queues: what is left are their last parts. -/
def Channel.Drains (ch ch' : Channel) : Prop := (∃ p, ch.evq = p ++ ch'.evq) ∧ ∃ p, ch.txq = p ++ ch'.txq

section
variable {ch : Channel}

theorem Channel.Drains.kept {ch' : Channel} (evq : ch'.evq = ch.evq) (txq : ch'.txq = ch.txq) : ch.Drains ch' :=
  ⟨⟨[], by rw [evq, List.nil_append]⟩, ⟨[], by rw [txq, List.nil_append]⟩⟩

theorem exists_append_tail {α : Type} (l : List α) : ∃ p, l = p ++ l.tail := by
  cases l with
  | nil => exact ⟨[], rfl⟩
  | cons a l => exact ⟨[a], rfl⟩

theorem Channel.drains_evDrop (ch : Channel) : ch.Drains ch.evDrop := ⟨exists_append_tail _, ⟨[], rfl⟩⟩

theorem Channel.drains_txDrop (ch : Channel) : ch.Drains ch.txDrop := ⟨⟨[], rfl⟩, exists_append_tail _⟩

theorem Channel.drains_rxPush (c : Config) (b : Byte) : ch.Drains (ch.rxPush c b) :=
  .kept (Channel.rxPush_evq _ _ _) (Channel.rxPush_txq _ _ _)

end

/-! ## XR -/

section
variable {c : Config} {x : Xr}

/-- XR stays where it is: its state, its number, and nothing new in its queues. -/
structure Xr.Rests (x y : Xr) : Prop where
  state : y.state = x.state
  seq : y.expectedSeq = x.expectedSeq
  drains : x.chan.Drains y.chan

theorem Xr.Rests.refl (x : Xr) : x.Rests x := ⟨rfl, rfl, .kept rfl rfl⟩

theorem Xr.byteRule_inactive (h : x.state.active = false) (b : Byte) : x.byteRule c b = some x := by
  have notHeader : x.state ≠ .waitHeader := by
    intro hs
    rw [hs] at h
    cases h
  exact (if_neg notHeader).trans (Xr.dataByte_inactive h)

theorem Xr.rests_byteStep (h : x.state.active = false) : x.Rests (x.byteStep c) := by
  obtain same | ⟨b, y, -, hy, taken⟩ := x.byteStep_cases c
  · rw [same]
    exact .refl x
  · obtain rfl := Option.some.inj ((Xr.byteRule_inactive h b).symm.trans hy)
    rw [taken]
    exact ⟨rfl, rfl, .kept rfl rfl⟩

theorem Xr.ticked_of_off (off : x.timer = 0) : x.ticked c = x := by
  rw [Xr.ticked, Xr.tick, if_pos off, Option.getD_some]

theorem Xr.rests_obey (h : x.state.active = false) {i : Instr} (notStart : ∀ m, i ≠ .xrStart m) :
    x.Rests (x.obey c i) := by
  cases i with
  | xrStart m => exact absurd rfl (notStart m)
  | evPop unit =>
    show x.Rests (ite _ _ _)
    split
    · exact ⟨rfl, rfl, x.chan.drains_evDrop⟩
    · exact .refl x
  | xrCancel =>
    show x.Rests (ite _ _ _)
    rw [if_neg fun active => ne_true_of_eq_false h active.1]
    exact .refl x
  | xrClrOvf => exact ⟨rfl, rfl, .kept rfl rfl⟩
  | _ => exact .refl x

/-- Outside a transfer XR rests until XR_START or reset (R349). -/
theorem Xr.rests_after (inv : x.Inv c) (h : x.state.active = false) (n : Nat) {turn : Turn} (notReset : turn ≠ .reset)
    (notStart : ∀ k, turn = .command k → ∀ m, decode (.command k) ≠ .instr (.xrStart m)) :
    x.Rests (x.after c n turn) := by
  have off := Xr.ticked_of_off (c := c) (inv.timerOff h)
  cases turn with
  | reset => exact absurd rfl notReset
  | command k =>
    cases hd : decode (.command k) with
    | reject r => simp only [Xr.after, hd]; exact .refl x
    | instr i =>
      rw [xr_after_command hd]
      exact Xr.rests_obey h fun m isStart => notStart k rfl m (hd.trans (congrArg _ isStart))
  | rxPush u b =>
    cases u with
    | xr => exact ⟨rfl, rfl, Channel.drains_rxPush c b⟩
    | _ => exact .refl x
  | txPop u =>
    cases u with
    | xr => exact ⟨rfl, rfl, x.chan.drains_txDrop⟩
    | _ => exact .refl x
  | byteStep u =>
    cases u with
    | xr => exact Xr.rests_byteStep h
    | _ => exact .refl x
  | tick u =>
    cases u with
    | xr => rw [Xr.after, off]; exact .refl x
    | _ => exact .refl x
  | retryTick u =>
    cases u with
    | xr => rw [Xr.after, off, ite_self]; exact .refl x
    | _ => exact .refl x
  | emit => exact .refl x

end

/-! ## XT -/

section
variable {c : Config} {x : Xt}

/-- XT stays where it is: its state, its number and total, and nothing new in its queues. -/
structure Xt.Rests (x y : Xt) : Prop where
  state : y.state = x.state
  seq : y.seq = x.seq
  total : y.total = x.total
  drains : x.chan.Drains y.chan

theorem Xt.Rests.refl (x : Xt) : x.Rests x := ⟨rfl, rfl, rfl, .kept rfl rfl⟩

theorem Xt.discardByte_inactive (h : x.state.active = false) : x.discardByte c = x :=
  if_neg (ne_true_of_eq_false (XtState.not_awaiting_of_inactive h))

theorem Xt.rests_byteStep (h : x.state.active = false) : x.Rests (x.byteStep c) := by
  obtain same | ⟨b, y, -, hy, taken⟩ := x.byteStep_cases c
  · rw [same]
    exact .refl x
  · rw [Xt.byteRule_inactive h, Xt.discardByte_inactive h] at hy
    obtain rfl := Option.some.inj hy
    rw [taken]
    exact ⟨rfl, rfl, rfl, .kept rfl rfl⟩

theorem Xt.ticked_of_off (off : x.timer = 0) : x.ticked c = x := by
  rw [Xt.ticked, Xt.tick, if_pos off, Option.getD_some]

theorem Xt.emitted_inactive (h : x.state.active = false) : x.emitted c = x := by
  have notSend (st : XtState) (active : st.active = true) : x.state ≠ st := by
    rintro rfl
    exact ne_true_of_eq_false h active
  rw [Xt.emitted, Xt.emit_outside_send (notSend _ rfl) (notSend _ rfl) (notSend _ rfl) (notSend _ rfl) (notSend _ rfl),
    Option.getD_none]

theorem Xt.rests_obey (h : x.state.active = false) {i : Instr} (notStart : i ≠ .xtStart) : x.Rests (x.obey c i) := by
  have notWaiting : x.state ≠ .waitFrame := fun hs => XtState.not_inactive_of_waitFrame hs h
  cases i with
  | xtStart => exact absurd rfl notStart
  | evPop unit =>
    show x.Rests (ite _ _ _)
    split
    · exact ⟨rfl, rfl, rfl, x.chan.drains_evDrop⟩
    · exact .refl x
  | xtSendFrame n bytes =>
    show x.Rests (ite _ _ _)
    rw [if_neg fun waiting => notWaiting waiting.1]
    exact .refl x
  | xtOver =>
    show x.Rests (ite _ _ _)
    rw [if_neg fun waiting => notWaiting waiting.1]
    exact .refl x
  | xtCancel =>
    show x.Rests (ite _ _ _)
    rw [if_neg fun active => ne_true_of_eq_false h active.1]
    exact .refl x
  | xtClrOvf => exact ⟨rfl, rfl, rfl, .kept rfl rfl⟩
  | _ => exact .refl x

/-- Outside a transfer XT rests until XT_START or reset (R349). -/
theorem Xt.rests_after (inv : x.Inv c) (h : x.state.active = false) (n : Nat) {turn : Turn} (notReset : turn ≠ .reset)
    (notStart : ∀ k, turn = .command k → decode (.command k) ≠ .instr .xtStart) : x.Rests (x.after c n turn) := by
  have off := Xt.ticked_of_off (c := c) (inv.timerOff (XtState.not_awaiting_of_inactive h))
  cases turn with
  | reset => exact absurd rfl notReset
  | command k =>
    cases hd : decode (.command k) with
    | reject r => simp only [Xt.after, hd]; exact .refl x
    | instr i =>
      rw [xt_after_command hd]
      exact Xt.rests_obey h fun isStart => notStart k rfl (hd.trans (congrArg _ isStart))
  | rxPush u b =>
    cases u with
    | xt => exact ⟨rfl, rfl, rfl, Channel.drains_rxPush c b⟩
    | _ => exact .refl x
  | txPop u =>
    cases u with
    | xt => exact ⟨rfl, rfl, rfl, x.chan.drains_txDrop⟩
    | _ => exact .refl x
  | byteStep u =>
    cases u with
    | xt => exact Xt.rests_byteStep h
    | _ => exact .refl x
  | tick u =>
    cases u with
    | xt => rw [Xt.after, off]; exact .refl x
    | _ => exact .refl x
  | retryTick u =>
    cases u with
    | xt => rw [Xt.after, off, ite_self]; exact .refl x
    | _ => exact .refl x
  | emit => rw [Xt.after, Xt.emitted_inactive h]; exact .refl x

end

/-! ## Held ticks -/

section
variable {s t : State} {u : UnitId}

theorem takeTurn_tick_held (h : tickUnit s u = none) :
    takeTurn (.tick u) s = .next { s with ticks := s.ticks.set u (s.ticks.get u + 1) } := by
  rw [takeTurn_of_none rfl, plainTurn, tickTurn, h]
  rfl

theorem takeTurn_retryTick_held (h : tickUnit s u = none) : takeTurn (.retryTick u) s = .next s := by
  rw [takeTurn_of_none rfl, plainTurn, retryTickTurn, h]
  simp only [ite_self]

theorem takeTurn_retryTick_of_none_pending (h : s.ticks.get u = 0) : takeTurn (.retryTick u) s = .next s := by
  rw [takeTurn_of_none rfl, plainTurn, retryTickTurn, if_pos h]

theorem PendingTicks.get_set (p : PendingTicks) (u : UnitId) (n : Nat) : (p.set u n).get u = n := by cases u <;> rfl

theorem PendingTicks.set_set (p : PendingTicks) (u : UnitId) (m n : Nat) : (p.set u m).set u n = p.set u n := by
  cases u <;> rfl

theorem PendingTicks.set_get (p : PendingTicks) (u : UnitId) : p.set u (p.get u) = p := by cases u <;> rfl

/-- A unit's tick rule neither reads nor writes the pending counts. -/
theorem tickUnit_setTicks (s : State) (u : UnitId) (p : PendingTicks) :
    tickUnit (s.setTicks p) u = (tickUnit s u).map fun t => t.setTicks p := by
  cases u with
  | fe =>
    show Option.map _ (s.fe.tick s.cfg) = _
    cases h : s.fe.tick s.cfg with
    | none => simp only [tickUnit, h, Option.map_none]
    | some g => simp only [tickUnit, h, Option.map_some]; rfl
  | xr =>
    show Option.map _ (s.xr.tick s.cfg) = _
    cases h : s.xr.tick s.cfg with
    | none => simp only [tickUnit, h, Option.map_none]
    | some g => simp only [tickUnit, h, Option.map_some]; rfl
  | xt =>
    show Option.map _ (s.xt.tick s.cfg) = _
    cases h : s.xt.tick s.cfg with
    | none => simp only [tickUnit, h, Option.map_none]
    | some g => simp only [tickUnit, h, Option.map_some]; rfl

/-- A tick that adds nothing to the pending counts was taken. -/
theorem tickUnit_of_takeTurn (h : takeTurn (.tick u) s = .next t) (taken : t.ticks = s.ticks) :
    tickUnit s u = some t := by
  cases ht : tickUnit s u with
  | some t' => exact congrArg some (Host.Outcome.next.inj ((takeTurn_tick_of_some ht).symm.trans h))
  | none =>
    obtain rfl := Host.Outcome.next.inj ((takeTurn_tick_held ht).symm.trans h)
    have grown := congrArg (fun p => p.get u) taken
    simp only [PendingTicks.get_set] at grown
    omega

/-- A pending tick tried again does what the tick does, and is used up. -/
theorem takeTurn_retryTick_taken (h : tickUnit s u = some t) (kept : t.ticks = s.ticks) :
    takeTurn (.retryTick u) { s with ticks := s.ticks.set u (s.ticks.get u + 1) } = .next t := by
  have tick := tickUnit_setTicks s u (s.ticks.set u (s.ticks.get u + 1))
  rw [h, Option.map_some] at tick
  show takeTurn (.retryTick u) (s.setTicks (s.ticks.set u (s.ticks.get u + 1))) = _
  rw [takeTurn_of_none rfl, plainTurn, retryTickTurn, State.setTicks_ticks, PendingTicks.get_set,
    if_neg (Nat.succ_ne_zero _), tick]
  simp only [State.setTicks_ticks, PendingTicks.get_set, PendingTicks.set_set, Nat.add_sub_cancel,
    PendingTicks.set_get]
  rw [← kept]
  rfl

theorem heldTick_of_countdown {running expired : State} {timer : Word} {room : Prop} [Decidable room]
    (h : tickUnit s u = countdown timer room s running expired) (last : timer = 1) (full : ¬room) :
    takeTurn (.tick u) s = .next { s with ticks := s.ticks.set u (s.ticks.get u + 1) } ∧
      takeTurn (.retryTick u) s = .next s :=
  ⟨takeTurn_tick_held (h.trans (countdown_held last full)), takeTurn_retryTick_held (h.trans (countdown_held last full))⟩

/-! The tick of each unit on the block is a countdown. -/

theorem tickUnit_fe_eq_countdown (s : State) :
    tickUnit s .fe = countdown s.fe.timer (1 ≤ s.fe.chan.evRoom s.cfg) s (s.setFe { s.fe with timer := s.fe.timer - 1 })
      (s.setFe ({ s.fe with timer := 0, isBackToBackWrite := false, txRetry := 0 }.post (.feTxTimeout s.fe.txCopyType))) :=
  (congrArg (Option.map s.setFe) (Fe.tick_eq_countdown s.cfg s.fe)).trans (countdown_map _)

theorem tickUnit_xr_eq_countdown (s : State) :
    tickUnit s .xr = countdown s.xr.timer (1 ≤ s.xr.chan.evRoom s.cfg) s (s.setXr { s.xr with timer := s.xr.timer - 1 })
      (s.setXr (s.xr.failureEntry .failed (.xrTimeout s.xr.expectedSeq))) :=
  (congrArg (Option.map s.setXr) (Xr.tick_eq_countdown s.cfg s.xr)).trans (countdown_map _)

theorem tickUnit_xt_eq_countdown (s : State) :
    tickUnit s .xt = countdown s.xt.timer (3 ≤ s.xt.chan.txRoom s.cfg ∧ 1 ≤ s.xt.chan.evRoom s.cfg) s
      (s.setXt { s.xt with timer := s.xt.timer - 1 })
      (s.setXt (s.xt.failureEntry .failed canThree (.xtTimeout s.xt.seq))) :=
  (congrArg (Option.map s.setXt) (Xt.tick_eq_countdown s.cfg s.xt)).trans (countdown_map _)

end

end Sys2Proof.Machine

namespace Sys2Proof.Proofs
open Sys2Proof.Machine

theorem XrState.inactive_of_terminal {st : XrState} (h : st = .done ∨ st = .cancelled ∨ st = .failed) :
    st.active = false := by
  obtain rfl | rfl | rfl := h <;> rfl

theorem XtState.inactive_of_terminal {st : XtState} (h : st = .done ∨ st = .cancelled ∨ st = .failed) :
    st.active = false := by
  obtain rfl | rfl | rfl := h <;> rfl

/-- Settles O54: a terminal state is inactive, and an inactive unit rests. -/
theorem terminalStatesLastUntilRestart : Obligations.TerminalStatesLastUntilRestart := by
  refine ⟨fun s t turn h notReset inv => ⟨fun terminal notStart => ?xr, fun terminal notStart => ?xt⟩,
    fun s b hb inactive => ?outside⟩
  case xr =>
    obtain ⟨state, seq, evq, txq⟩ := Xr.rests_after inv.xr (XrState.inactive_of_terminal terminal) s.ticks.xr notReset
      fun k isCommand => notStart k (by rw [isCommand]; rfl)
    rw [xr_after_of_takeTurn h]
    exact ⟨state, evq, txq, seq⟩
  case xt =>
    obtain ⟨state, seq, total, evq, txq⟩ := Xt.rests_after inv.xt (XtState.inactive_of_terminal terminal) s.ticks.xt
      notReset fun k isCommand => notStart k (by rw [isCommand]; rfl)
    rw [xt_after_of_takeTurn h]
    exact ⟨state, evq, txq, seq, total⟩
  case outside =>
    have notHeader : s.xr.state ≠ .waitHeader := by
      intro hs
      rw [hs] at inactive
      cases inactive
    exact xrByte_ends (takeTurn_xrDataByte notHeader) hb (Xr.dataByte_inactive inactive) inactive

/-- Settles O56: a held tick is a countdown at 1 without room; a retried one is the same rule again. -/
theorem heldTicksAreTriedAgain : Obligations.HeldTicksAreTriedAgain := by
  refine ⟨fun s last full => ?fe, fun s last full => ?xr, fun s last full => ?xt, fun s t u h taken => ?taken,
    fun s u => takeTurn_retryTick_of_none_pending⟩
  case fe => exact heldTick_of_countdown (tickUnit_fe_eq_countdown s) last (Channel.not_evRoom full)
  case xr => exact heldTick_of_countdown (tickUnit_xr_eq_countdown s) last (Channel.not_evRoom full)
  case xt =>
    refine heldTick_of_countdown (tickUnit_xt_eq_countdown s) last ?_
    rintro ⟨tx, ev⟩
    obtain noTx | noEv := full
    · exact Nat.not_le.mpr noTx tx
    · exact Channel.not_evRoom noEv ev
  case taken => exact takeTurn_retryTick_taken (tickUnit_of_takeTurn h taken) taken

end Sys2Proof.Proofs
end

section
/-!
Running timers (R352, R388): a timer that holds `n` counts down for `n - 1` ticks and expires on the next. The run is the
same for the three units, so it is made once, over the states the countdown goes through.
-/
namespace Sys2Proof.Machine

/-- The turn takes `s` to `t`, whatever is scheduled after it. -/
def Takes (turn : Turn) (s t : State) : Prop :=
  ∀ agenda, takeTurn turn (s.setAgenda agenda) = .next (t.setAgenda agenda)

theorem Takes.runTurns_cons {turn : Turn} {s t : State} (h : Takes turn s t) (turns after : List Turn) :
    runTurns s (turn :: turns) after = runTurns t turns after :=
  (Sys2Proof.Machine.runTurns_cons (h (turns ++ after)) rfl :)

/-! ## A countdown as a run -/

section
variable {u : UnitId} {states : Nat → State} {expired : State}

/-- `states m`, whose timer holds `m`, counts down to `states 1` and then expires. -/
structure CountsDown (u : UnitId) (states : Nat → State) (expired : State) : Prop where
  running : ∀ m, 0 < m → m + 1 < 2 ^ 32 → Takes (.tick u) (states (m + 1)) (states m)
  last : Takes (.tick u) (states 1) expired

theorem CountsDown.not_before (h : CountsDown u states expired) (rest : List Turn) {k n : Nat} (more : k < n)
    (fits : n < 2 ^ 32) :
    runTurns (states n) (List.replicate k (.tick u)) rest = .next ((states (n - k)).setAgenda rest) := by
  induction k generalizing n with
  | zero => rfl
  | succ k ih =>
    obtain ⟨m, rfl⟩ : ∃ m, n = m + 1 := ⟨n - 1, by omega⟩
    rw [List.replicate_succ, (h.running m (by omega) fits).runTurns_cons, ih (by omega) (by omega),
      Nat.add_sub_add_right]

theorem CountsDown.at_last (h : CountsDown u states expired) (rest : List Turn) {n : Nat} (fits : n + 1 < 2 ^ 32) :
    runTurns (states (n + 1)) (List.replicate (n + 1) (.tick u)) rest = .next (expired.setAgenda rest) := by
  induction n with
  | zero => exact h.last.runTurns_cons [] rest
  | succ n ih => rw [List.replicate_succ, (h.running (n + 1) (Nat.succ_pos n) fits).runTurns_cons, ih (by omega)]

end

/-! ## The three timers -/

theorem ofNat_succ_sub_one (m : Nat) : (BitVec.ofNat 32 (m + 1) : Word) - 1 = BitVec.ofNat 32 m := by
  rw [BitVec.ofNat_add]
  exact BitVec.add_sub_cancel _ _

theorem one_lt_toNat_ofNat {m : Nat} (pos : 0 < m) (fits : m + 1 < 2 ^ 32) :
    1 < (BitVec.ofNat 32 (m + 1) : Word).toNat := by
  rw [BitVec.toNat_ofNat, Nat.mod_eq_of_lt fits]
  omega

section
variable (s : State)

/-- The block with XR's timer at `m`. -/
def State.xrTimerAt (m : Nat) : State := s.setXr { s.xr with timer := BitVec.ofNat 32 m }

/-- The block with FE's timer at `m`. -/
def State.feTimerAt (m : Nat) : State := s.setFe { s.fe with timer := BitVec.ofNat 32 m }

/-- The block with XT's timer at `m`. -/
def State.xtTimerAt (m : Nat) : State := s.setXt { s.xt with timer := BitVec.ofNat 32 m }

theorem countsDown_xr (ev : s.xr.chan.evq.length < s.cfg.evqCap) :
    CountsDown .xr s.xrTimerAt (s.setXr (s.xr.failureEntry .failed (.xrTimeout s.xr.expectedSeq))) where
  running m pos fits agenda := by
    have tick := (takeTurn_tick_of_countdown (tickUnit_xr_eq_countdown ((s.xrTimerAt (m + 1)).setAgenda agenda))).2.1
      (one_lt_toNat_ofNat pos fits)
    rw [tick]
    show Host.Outcome.next ((s.setXr { s.xr with timer := BitVec.ofNat 32 (m + 1) - 1 }).setAgenda agenda) = _
    rw [ofNat_succ_sub_one]
    rfl
  last agenda := (takeTurn_tick_of_countdown (tickUnit_xr_eq_countdown ((s.xrTimerAt 1).setAgenda agenda))).2.2.1 rfl
    (Nat.sub_pos_of_lt ev)

theorem countsDown_fe (ev : s.fe.chan.evq.length < s.cfg.evqCap) :
    CountsDown .fe s.feTimerAt (s.setFe
      ({ s.fe with timer := 0, isBackToBackWrite := false, txRetry := 0 }.post (.feTxTimeout s.fe.txCopyType))) where
  running m pos fits agenda := by
    have tick := (takeTurn_tick_of_countdown (tickUnit_fe_eq_countdown ((s.feTimerAt (m + 1)).setAgenda agenda))).2.1
      (one_lt_toNat_ofNat pos fits)
    rw [tick]
    show Host.Outcome.next ((s.setFe { s.fe with timer := BitVec.ofNat 32 (m + 1) - 1 }).setAgenda agenda) = _
    rw [ofNat_succ_sub_one]
    rfl
  last agenda := (takeTurn_tick_of_countdown (tickUnit_fe_eq_countdown ((s.feTimerAt 1).setAgenda agenda))).2.2.1 rfl
    (Nat.sub_pos_of_lt ev)

theorem countsDown_xt (ev : s.xt.chan.evq.length < s.cfg.evqCap) (tx : s.xt.chan.txq.length + 3 ≤ s.cfg.txqCap) :
    CountsDown .xt s.xtTimerAt (s.setXt (s.xt.failureEntry .failed canThree (.xtTimeout s.xt.seq))) where
  running m pos fits agenda := by
    have tick := (takeTurn_tick_of_countdown (tickUnit_xt_eq_countdown ((s.xtTimerAt (m + 1)).setAgenda agenda))).2.1
      (one_lt_toNat_ofNat pos fits)
    rw [tick]
    show Host.Outcome.next ((s.setXt { s.xt with timer := BitVec.ofNat 32 (m + 1) - 1 }).setAgenda agenda) = _
    rw [ofNat_succ_sub_one]
    rfl
  last agenda := (takeTurn_tick_of_countdown (tickUnit_xt_eq_countdown ((s.xtTimerAt 1).setAgenda agenda))).2.2.1 rfl
    ⟨Nat.le_sub_of_add_le' tx, Nat.sub_pos_of_lt ev⟩

variable {s}

theorem xrTimerAt_self {n : Nat} (h : s.xr.timer = BitVec.ofNat 32 n) : s.xrTimerAt n = s := by
  rw [State.xrTimerAt, ← h]
  rfl

theorem feTimerAt_self {n : Nat} (h : s.fe.timer = BitVec.ofNat 32 n) : s.feTimerAt n = s := by
  rw [State.feTimerAt, ← h]
  rfl

theorem xtTimerAt_self {n : Nat} (h : s.xt.timer = BitVec.ofNat 32 n) : s.xtTimerAt n = s := by
  rw [State.xtTimerAt, ← h]
  rfl

/-- A countdown from `states n = s`, as the run of the ticks from `s`. -/
theorem CountsDown.runs {u : UnitId} {states : Nat → State} {expired : State} (h : CountsDown u states expired) {n : Nat}
    (start : states n = s) (pos : 0 < n) (fits : n < 2 ^ 32) (rest : List Turn) :
    (∀ k, k < n → runTurns s (List.replicate k (.tick u)) rest = .next ((states (n - k)).setAgenda rest)) ∧
      runTurns s (List.replicate n (.tick u)) rest = .next (expired.setAgenda rest) := by
  subst start
  obtain ⟨m, rfl⟩ : ∃ m, n = m + 1 := ⟨n - 1, by omega⟩
  exact ⟨fun k more => h.not_before rest more fits, h.at_last rest fits⟩

end
end Sys2Proof.Machine

namespace Sys2Proof.Proofs
open Sys2Proof.Machine

/-- Settles O55: each unit's timer counts down, so its run is the one of `CountsDown`. -/
theorem timersExpireOnTheNthTick : Obligations.TimersExpireOnTheNthTick :=
  fun s _ rest fits pos _ =>
    ⟨fun timer ev => (countsDown_xr s ev).runs (xrTimerAt_self timer) pos fits rest,
      fun timer ev => (countsDown_fe s ev).runs (feTimerAt_self timer) pos fits rest,
      fun timer ev tx => (countsDown_xt s ev tx).runs (xtTimerAt_self timer) pos fits rest⟩

end Sys2Proof.Proofs
end

section
/-!
A whole frame on the wire (R281 to R286, R295): the header's three bytes, the data one byte per step, then the trailer.
`Xt.emitN` is XT's part of a run of emission turns (`runTurns_emit`).
-/
namespace Sys2Proof.Machine

/-- XT after `n` emission steps, when each is enabled. -/
def Xt.emitN (c : Config) : Nat → Xt → Option Xt
  | 0, x => some x
  | n + 1, x => (x.emit c).bind (Xt.emitN c n)

theorem runTurns_emit {s : State} {y : Xt} {n : Nat} (h : s.xt.emitN s.cfg n = some y) (rest : List Turn) :
    runTurns s (List.replicate n .emit) rest = .next ((s.setXt y).setAgenda rest) := by
  induction n generalizing s with
  | zero =>
    obtain rfl := Option.some.inj h
    rfl
  | succ n ih =>
    obtain ⟨x, hx, later⟩ := Option.bind_eq_some_iff.mp h
    have step : Takes .emit s (s.setXt x) := fun agenda => takeTurn_emit_taken (s := s.setAgenda agenda) hx
    rw [List.replicate_succ, step.runTurns_cons]
    exact ih (s := s.setXt x) later

section
variable {c : Config} {x y : Xt}

theorem Xt.emitN_one (h : x.emit c = some y) : x.emitN c 1 = some y := by rw [Xt.emitN, h]; rfl

theorem Xt.emitN_succ (h : x.emit c = some y) (n : Nat) : x.emitN c (n + 1) = y.emitN c n := by
  rw [Xt.emitN, h, Option.bind_some]

theorem Xt.emitN_add {m : Nat} (h : x.emitN c m = some y) (n : Nat) : x.emitN c (m + n) = y.emitN c n := by
  induction m generalizing x with
  | zero => rw [Nat.zero_add, ← Option.some.inj h]
  | succ m ih =>
    obtain ⟨z, hz, later⟩ := Option.bind_eq_some_iff.mp h
    rw [Nat.add_right_comm, Xt.emitN_succ hz, ih later]

theorem Xt.emitN_header (hs : x.state = .sendHeader) (room : x.chan.txq.length + 3 ≤ c.txqCap) :
    x.emitN c 3 = some
      { x.txPush [if x.mode = .crc then 0x02 else 0x01, x.seq, ~~~x.seq] with sent := 0, state := .sendData } := by
  have header : x.emit c = some x.emitHeader := (Xt.emit_of_room (by omega)).1 hs
  have sequence : x.emitHeader.emit c = some x.emitHeader.emitSequence :=
    (Xt.emit_of_room (by simp [Xt.emitHeader]; omega)).2.1 rfl
  have complement : x.emitHeader.emitSequence.emit c = some x.emitHeader.emitSequence.emitComplement :=
    (Xt.emit_of_room (by simp [Xt.emitHeader, Xt.emitSequence]; omega)).2.2.1 rfl
  rw [Xt.emitN_succ header, Xt.emitN_succ sequence, Xt.emitN_one complement, Xt.emitHeader_eq]
  simp [Xt.emitSequence, Xt.emitComplement, Xt.txPush, Channel.txPush]

theorem Xt.sent_succ (more : x.sent.toNat < x.mode.frameSize) : (x.sent + 1).toNat = x.sent.toNat + 1 := by
  have fits := x.mode.frameSize_le
  exact BitVec.toNat_add_of_lt (by simp; omega)

/-- From byte `sent` on, the rest of the frame's data goes out and the trailer is next. -/
theorem Xt.emitN_data {k : Nat} (hs : x.state = .sendData) (size : x.buf.length = 1024)
    (left : x.sent.toNat + (k + 1) = x.mode.frameSize) (room : x.chan.txq.length + (k + 1) ≤ c.txqCap) :
    x.emitN c (k + 1) = some
      { x.txPush ((x.buf.drop x.sent.toNat).take (k + 1)) with
        sent := BitVec.ofNat 11 x.mode.frameSize, tidx := false, state := .sendChecksum } := by
  induction k generalizing x with
  | zero =>
    have fits := x.mode.frameSize_le
    have inBuf : x.sent.toNat < x.buf.length := by omega
    have next := x.sent_succ (by omega)
    have emits := (Xt.emit_of_room (c := c) (x := x) (by omega)).2.2.2.1 hs
    rw [Xt.emitData_last (List.getElem?_eq_getElem inBuf) (by omega)] at emits
    have done : x.sent + 1 = BitVec.ofNat 11 x.mode.frameSize := BitVec.eq_of_toNat_eq (by simp; omega)
    rw [Xt.emitN_one emits, done, List.drop_eq_getElem_cons inBuf, List.take_succ_cons, List.take_zero]
  | succ k ih =>
    have fits := x.mode.frameSize_le
    have inBuf : x.sent.toNat < x.buf.length := by omega
    have next := x.sent_succ (by omega)
    have emits := (Xt.emit_of_room (c := c) (x := x) (by omega)).2.2.2.1 hs
    rw [Xt.emitData_more (List.getElem?_eq_getElem inBuf) (by omega)] at emits
    have rest := ih (x := { x.txPush [x.buf[x.sent.toNat]] with sent := x.sent + 1 }) hs size
      (by show (x.sent + 1).toNat + _ = _; simp only [Xt.txPush_mode]; omega) (by simp; omega)
    rw [Xt.emitN_succ emits, rest, List.drop_eq_getElem_cons inBuf, List.take_succ_cons]
    simp [Xt.txPush, Channel.txPush, Nat.mod_eq_of_lt (by omega : x.sent.toNat + 1 < 2048)]

theorem Xt.emitN_all_data (hs : x.state = .sendData) (start : x.sent = 0) (size : x.buf.length = 1024)
    (room : x.chan.txq.length + x.mode.frameSize ≤ c.txqCap) :
    x.emitN c x.mode.frameSize = some
      { x.txPush (x.buf.take x.mode.frameSize) with
        sent := BitVec.ofNat 11 x.mode.frameSize, tidx := false, state := .sendChecksum } := by
  have whole : x.mode.frameSize - 1 + 1 = x.mode.frameSize := Nat.sub_add_cancel x.mode.frameSize_pos
  have data := Xt.emitN_data (c := c) (k := x.mode.frameSize - 1) hs size (by simp [start, whole]) (by omega)
  rw [whole, start] at data
  exact data

/-- The trailer of a frame of data `d` (R110, R286). -/
def CheckMode.trailer (d : List Byte) : CheckMode → List Byte
  | .checksum => [sum8 d]
  | .crc => [hi (crc16Ccitt 0 d), lo (crc16Ccitt 0 d)]

theorem Xt.emit_crc_second (hs : x.state = .sendChecksum) (hm : x.mode = .crc) (ht : x.tidx = true)
    (room : x.chan.txq.length < c.txqCap) :
    x.emit c = some ({ x.txPush [lo (crc16Ccitt 0 (x.buf.take 1024))] with tidx := false }.frameSent c) := by
  rw [(Xt.emit_of_room room).2.2.2.2 hs, Xt.emitChecksum_crc_second hm ht]

theorem Xt.emitN_trailer (hs : x.state = .sendChecksum) (first : x.tidx = false)
    (room : x.chan.txq.length + x.mode.trailerLen ≤ c.txqCap) :
    x.emitN c x.mode.trailerLen = some ((x.txPush (x.mode.trailer (x.buf.take x.mode.frameSize))).frameSent c) := by
  have pos := x.mode.trailerLen_pos
  have emits := (Xt.emit_of_room (c := c) (x := x) (by omega)).2.2.2.2 hs
  cases hm : x.mode with
  | checksum =>
    rw [Xt.emitChecksum_checksum hm] at emits
    exact Xt.emitN_one emits
  | crc =>
    rw [Xt.emitChecksum_crc_first hm first] at emits
    rw [hm] at room
    have second := Xt.emit_crc_second (c := c)
      (x := { x.txPush [hi (crc16Ccitt 0 (x.buf.take 1024))] with tidx := true }) hs hm rfl
      (by simp [CheckMode.trailerLen] at room ⊢; omega)
    show x.emitN c 2 = _
    rw [Xt.emitN_succ emits, Xt.emitN_one second]
    simp [Xt.frameSent, Xt.txPush, Channel.txPush, CheckMode.trailer, CheckMode.frameSize, first]

/-- All the bytes of the frame in `buf`, from its header on. -/
theorem Xt.emitN_frame (hs : x.state = .sendHeader) (size : x.buf.length = 1024)
    (room : x.chan.txq.length + (3 + x.mode.frameSize + x.mode.trailerLen) ≤ c.txqCap) :
    x.emitN c (3 + x.mode.frameSize + x.mode.trailerLen) = some
      { x with
        state := .awaitAck, sent := BitVec.ofNat 11 x.mode.frameSize, tidx := false, timer := c.xtAckTimeout
        chan := x.chan.txPush ([if x.mode = .crc then 0x02 else 0x01, x.seq, ~~~x.seq] ++ x.buf.take x.mode.frameSize ++
          x.mode.trailer (x.buf.take x.mode.frameSize)) } := by
  have fits := List.length_take_le x.mode.frameSize x.buf
  have header := Xt.emitN_header (c := c) hs (by omega)
  have data := Xt.emitN_all_data (c := c)
    (x := { x.txPush [if x.mode = .crc then 0x02 else 0x01, x.seq, ~~~x.seq] with sent := 0, state := .sendData })
    rfl rfl size (by simp; omega)
  have trailer := Xt.emitN_trailer (c := c)
    (x := { (x.txPush [if x.mode = .crc then 0x02 else 0x01, x.seq, ~~~x.seq]).txPush (x.buf.take x.mode.frameSize) with
      sent := BitVec.ofNat 11 x.mode.frameSize, tidx := false, state := .sendChecksum }) rfl rfl (by simp; omega)
  calc x.emitN c (3 + x.mode.frameSize + x.mode.trailerLen)
    _ = _ := by rw [Nat.add_assoc, Xt.emitN_add header]; rfl
    _ = _ := Xt.emitN_add data _
    _ = _ := trailer
    _ = _ := by simp [Xt.frameSent, Xt.txPush, Channel.txPush]

end
end Sys2Proof.Machine

namespace Sys2Proof.Proofs
open Sys2Proof.Machine

/-- Settles O47: the run of XT's emissions is `Xt.emitN_frame`. -/
theorem xtEmitsExactlyTheFrame : Obligations.XtEmitsExactlyTheFrame := by
  intro s FS T d trailer rest inv hs first size count data check room
  rw [CheckMode.ite_eq_frameSize] at size
  have trailerLen : T = s.xt.mode.trailerLen := by rw [count]; cases s.xt.mode <;> rfl
  have isTrailer : trailer = s.xt.mode.trailer d := by rw [check]; cases s.xt.mode <;> rfl
  subst size trailerLen data
  rw [runTurns_emit (Xt.emitN_frame hs inv.xt.bufSize room), isTrailer, Channel.txPush, ← List.append_assoc,
    ← List.append_assoc]
  rfl

end Sys2Proof.Proofs
end

section
/-!
The rules of a unit do not look at its receive ring (R73: the head byte is handed to them): on a unit with another ring
they do the same and leave that ring. `withRing` puts the ring of one channel into another.
-/
namespace Sys2Proof.Machine

/-- The channel with the ring of `r`: its bytes and its two offsets. -/
def Channel.withRing (ch r : Channel) : Channel :=
  { ch with rxBuf := r.rxBuf, readOffset := r.readOffset, writeOffset := r.writeOffset }

/-- FE with the ring of `r`. -/
def Fe.withRing (r : Channel) (f : Fe) : Fe := { f with chan := f.chan.withRing r }

/-- XR with the ring of `r`. -/
def Xr.withRing (r : Channel) (x : Xr) : Xr := { x with chan := x.chan.withRing r }

/-- XT with the ring of `r`. -/
def Xt.withRing (r : Channel) (x : Xt) : Xt := { x with chan := x.chan.withRing r }

/-! ## FE -/

section
variable {c : Config} {f : Fe} {b : Byte} {r : Channel}

theorem Fe.nak_withRing : (f.withRing r).nak c = (f.nak c).map (Fe.withRing r) := by
  unfold Fe.nak
  simp only [apply_ite (Option.map (Fe.withRing r))]
  rfl

theorem Fe.validate_withRing : (f.withRing r).validate c = (f.validate c).map (Fe.withRing r) := by
  unfold Fe.validate Fe.acceptCommand Fe.acceptData Fe.nak
  simp only [apply_ite (Option.map (Fe.withRing r))]
  rfl

theorem Fe.waitStartByte_withRing : (f.withRing r).waitStartByte b = (f.waitStartByte b).withRing r := by
  unfold Fe.waitStartByte
  rw [apply_ite (Fe.withRing r)]
  rfl

theorem Fe.dataByte_withRing : (f.withRing r).dataByte c b = (f.dataByte c b).map (Fe.withRing r) := by
  have state : (f.withRing r).rxState = f.rxState := rfl
  unfold Fe.dataByte Fe.lenHiByte Fe.crcHiByte Fe.payloadByte
  rw [state]
  split
  case h_1 => exact congrArg some Fe.waitStartByte_withRing
  case h_4 => simp only [apply_ite (Option.map (Fe.withRing r)), ← Fe.nak_withRing]; rfl
  case h_6 => simp only [apply_ite (Option.map (Fe.withRing r)), ← Fe.validate_withRing]; rfl
  case h_7 => simp only [apply_ite (Option.map (Fe.withRing r)), ← Fe.validate_withRing]; rfl
  all_goals rfl

theorem Fe.typeByte_withRing : (f.withRing r).typeByte c b = (f.typeByte c b).map (Fe.withRing r) := by
  unfold Fe.typeByte Fe.ackRule Fe.nakRule Fe.ackAbortRule Fe.endExchange Fe.pingRule Fe.otherTypeByte
  simp only [apply_ite (Option.map (Fe.withRing r)), apply_ite some]
  rfl

theorem Fe.byteRule_withRing : (f.withRing r).byteRule c b = (f.byteRule c b).map (Fe.withRing r) := by
  unfold Fe.byteRule
  rw [apply_ite (Option.map (Fe.withRing r)), ← Fe.typeByte_withRing, ← Fe.dataByte_withRing]
  rfl

end

/-! ## XR -/

section
variable {c : Config} {x : Xr} {b : Byte} {r : Channel}

theorem Xr.failurePath_withRing : (x.withRing r).failurePath c = (x.failurePath c).map (Xr.withRing r) := by
  unfold Xr.failurePath
  simp only [apply_ite (Option.map (Xr.withRing r))]
  rfl

theorem Xr.validate_withRing : (x.withRing r).validate c = (x.validate c).map (Xr.withRing r) := by
  unfold Xr.validate Xr.accept
  simp only [apply_ite (Option.map (Xr.withRing r)), ← Xr.failurePath_withRing]
  rfl

theorem Xr.eotRule_withRing : (x.withRing r).eotRule c = (x.eotRule c).map (Xr.withRing r) := by
  unfold Xr.eotRule
  rw [apply_ite (Option.map (Xr.withRing r))]
  rfl

theorem Xr.canRule_withRing : (x.withRing r).canRule c = (x.canRule c).map (Xr.withRing r) := by
  unfold Xr.canRule
  rw [apply_ite (Option.map (Xr.withRing r))]
  rfl

theorem Xr.storeTrailer_withRing : (x.withRing r).storeTrailer b = (x.storeTrailer b).withRing r := by
  unfold Xr.storeTrailer
  rw [apply_ite (Xr.withRing r)]
  rfl

theorem Xr.receiveByte_withRing : (x.withRing r).receiveByte c b = (x.receiveByte c b).map (Xr.withRing r) := by
  unfold Xr.receiveByte
  simp only [apply_ite (Option.map (Xr.withRing r)), ← Xr.validate_withRing, Xr.storeTrailer_withRing]
  rfl

theorem Xr.complementByte_withRing : (x.withRing r).complementByte c b = (x.complementByte c b).map (Xr.withRing r) := by
  unfold Xr.complementByte Xr.errorByte
  simp only [apply_ite (Option.map (Xr.withRing r)), ← Xr.failurePath_withRing, ← Xr.canRule_withRing,
    ← Xr.eotRule_withRing]
  rfl

theorem Xr.byteRule_withRing : (x.withRing r).byteRule c b = (x.byteRule c b).map (Xr.withRing r) := by
  have state : (x.withRing r).state = x.state := rfl
  unfold Xr.byteRule Xr.headerByte Xr.dataByte
  simp only [apply_ite (Option.map (Xr.withRing r)), ← Xr.canRule_withRing, ← Xr.eotRule_withRing, state]
  congr 1
  split
  case h_7 => exact Xr.complementByte_withRing
  case h_8 => exact Xr.receiveByte_withRing
  all_goals rfl

end

/-! ## XT -/

section
variable {c : Config} {x : Xt} {b : Byte} {r : Channel}

theorem Xt.discardByte_withRing : (x.withRing r).discardByte c = (x.discardByte c).withRing r := by
  unfold Xt.discardByte
  rw [apply_ite (Xt.withRing r)]
  rfl

theorem Xt.frameAcked_withRing : (x.withRing r).frameAcked c = (x.frameAcked c).map (Xt.withRing r) := by
  unfold Xt.frameAcked
  simp only [apply_ite (Option.map (Xt.withRing r))]
  rfl

theorem Xt.byteRule_withRing : (x.withRing r).byteRule c b = (x.byteRule c b).map (Xt.withRing r) := by
  unfold Xt.byteRule Xt.ackRule Xt.nakRule Xt.frameNaked Xt.eotNaked Xt.exhausted Xt.eotAcked Xt.selectMode Xt.canRule
  simp only [apply_ite (Option.map (Xt.withRing r)), ← Xt.frameAcked_withRing, Xt.discardByte_withRing]
  rfl

end
end Sys2Proof.Machine
end

section
/-!
Feeding a unit (R131: each byte is pushed and its byte step follows). From an idle ring a run of `feed` is the unit's rules
applied byte by byte, `reads`, and leaves the ring idle: the statements about whole packets and frames are then about
`reads`.
-/
namespace Sys2Proof.Machine

/-! ## One byte through an idle ring -/

/-- Nothing waits in the ring, and its offset is one of its positions. -/
structure Channel.Idle (c : Config) (ch : Channel) : Prop where
  ring : ch.rxBuf.length = c.rxqCap
  write : ch.writeOffset < c.rxqCap
  empty : ch.readOffset = ch.writeOffset

section
variable {c : Config} {ch : Channel} {b : Byte}

theorem Channel.Wf.idle {u : UnitId} (h : ch.Wf c u) (none : ch.pending c = []) : ch.Idle c :=
  ⟨h.ring, h.write, h.pending_eq_nil_iff.mp none⟩

theorem Channel.Idle.pending (h : ch.Idle c) : ch.pending c = [] := by
  have zero : ch.waiting c = 0 := by
    rw [Channel.waiting, h.empty, Nat.add_sub_cancel_left, Nat.mod_self]
  rw [Channel.pending_eq, zero, List.range_zero, List.map_nil]

/-- A ring of two positions or more has a free one after its write offset. -/
theorem Channel.Idle.write_succ_ne (h : ch.Idle c) (legal : 2 ≤ c.rxqCap) :
    (ch.writeOffset + 1) % c.rxqCap ≠ ch.writeOffset := by
  intro same
  exact absurd (ring_step_injective (j := 0) legal (Nat.zero_lt_of_lt legal)
    (same.trans (Nat.mod_eq_of_lt h.write).symm)) Nat.one_ne_zero

theorem Channel.Idle.rxPush (h : ch.Idle c) (legal : 2 ≤ c.rxqCap) :
    ch.rxPush c b = { ch with rxBuf := ch.rxBuf.set ch.writeOffset b, writeOffset := (ch.writeOffset + 1) % c.rxqCap } := by
  refine Channel.rxPush_of_room b fun full => ?_
  rw [h.empty] at full
  exact h.write_succ_ne legal full

theorem Channel.Idle.rxHead_rxPush (h : ch.Idle c) (legal : 2 ≤ c.rxqCap) : (ch.rxPush c b).rxHead = some b := by
  rw [h.rxPush legal, Channel.rxHead, h.empty, if_neg (h.write_succ_ne legal).symm]
  exact List.getElem?_set_self (h.ring.symm ▸ h.write)

/-- The ring after the byte came and was consumed. -/
theorem Channel.Idle.rxPush_consume (h : ch.Idle c) (legal : 2 ≤ c.rxqCap) :
    ((ch.rxPush c b).consume c).Idle c where
  ring := by rw [h.rxPush legal]; exact List.length_set.trans h.ring
  write := by rw [h.rxPush legal]; exact Nat.mod_lt _ (Nat.zero_lt_of_lt h.write)
  empty := by rw [h.rxPush legal, Channel.consume_readOffset, h.empty]; rfl

theorem Channel.Idle.rxPush_eq_withRing (h : ch.Idle c) (legal : 2 ≤ c.rxqCap) :
    ch.rxPush c b = ch.withRing (ch.rxPush c b) := by rw [h.rxPush legal]; rfl

end

/-! ## FE -/

/-- FE after the rules of the bytes, when none of them is held. -/
def Fe.reads (c : Config) : List Byte → Fe → Option Fe
  | [], f => some f
  | b :: bytes, f => (f.byteRule c b).bind (Fe.reads c bytes)

section
variable {c : Config} {f g : Fe} {b : Byte} {bytes : List Byte}

theorem Fe.reads_cons (h : f.byteRule c b = some g) : f.reads c (b :: bytes) = g.reads c bytes := by
  rw [Fe.reads, h, Option.bind_some]

theorem Fe.reads_withRing (r : Channel) : (f.withRing r).reads c bytes = (f.reads c bytes).map (Fe.withRing r) := by
  induction bytes generalizing f with
  | nil => rfl
  | cons b bytes ih =>
    rw [Fe.reads, Fe.byteRule_withRing, Fe.reads]
    cases f.byteRule c b with
    | none => rfl
    | some g => exact ih

theorem takes_rxPush_fe (s : State) (b : Byte) :
    Takes (.rxPush .fe b) s (s.setFe { s.fe with chan := s.fe.chan.rxPush s.cfg b }) := fun _ => rfl

theorem takes_byteStep_fe (s : State) : Takes (.byteStep .fe) s (s.setFe (s.fe.byteStep s.cfg)) :=
  fun agenda => takeTurn_fe_eq (s.setAgenda agenda)

/-- One byte fed to an idle FE: its rule, on a ring that is idle again. -/
theorem Fe.byteStep_rxPush (idle : f.chan.Idle c) (legal : 2 ≤ c.rxqCap) (h : f.byteRule c b = some g) :
    ∃ r : Channel, r.Idle c ∧ Fe.byteStep c { f with chan := f.chan.rxPush c b } = g.withRing r := by
  have pushed : { f with chan := f.chan.rxPush c b } = f.withRing (f.chan.rxPush c b) :=
    congrArg (fun ch => { f with chan := ch }) (idle.rxPush_eq_withRing legal)
  refine ⟨_, idle.rxPush_consume legal (b := b), ?_⟩
  have rule : ({ f with chan := f.chan.rxPush c b } : Fe).byteRule c b = some (g.withRing (f.chan.rxPush c b)) := by
    rw [pushed, Fe.byteRule_withRing, h, Option.map_some]
  simp only [Fe.byteStep, idle.rxHead_rxPush legal, rule]
  rfl

/-- Feeding an idle FE the bytes is reading them. -/
theorem runTurns_feed_fe {s : State} (idle : s.fe.chan.Idle s.cfg) (legal : 2 ≤ s.cfg.rxqCap)
    (h : s.fe.reads s.cfg bytes = some g) (rest : List Turn) :
    ∃ r : Channel, r.Idle s.cfg ∧
      runTurns s (feed .fe bytes) rest = .next ((s.setFe (g.withRing r)).setAgenda rest) := by
  induction bytes generalizing s g with
  | nil =>
    obtain rfl := Option.some.inj h
    exact ⟨s.fe.chan, idle, rfl⟩
  | cons b bytes ih =>
    obtain ⟨f, hf, later⟩ := Option.bind_eq_some_iff.mp h
    obtain ⟨r, hr, step⟩ := Fe.byteStep_rxPush idle legal hf
    have fed : runTurns s (feed .fe (b :: bytes)) rest = runTurns (s.setFe (f.withRing r)) (feed .fe bytes) rest := by
      show runTurns s (.rxPush .fe b :: .byteStep .fe :: feed .fe bytes) rest = _
      rw [(takes_rxPush_fe s b).runTurns_cons, (takes_byteStep_fe _).runTurns_cons, ← step]
      rfl
    obtain ⟨r', hr', run⟩ := ih (s := s.setFe (f.withRing r)) (g := g.withRing r) ⟨hr.ring, hr.write, hr.empty⟩ legal
      ((Fe.reads_withRing r).trans (congrArg (Option.map (Fe.withRing r)) later))
    exact ⟨r', hr', fed.trans run⟩

end

/-! ## XR -/

/-- XR after the rules of the bytes, each with its timer settle, when none of them is held. -/
def Xr.reads (c : Config) : List Byte → Xr → Option Xr
  | [], x => some x
  | b :: bytes, x => (x.byteRule c b).bind fun y => Xr.reads c bytes (y.settle c)

section
variable {c : Config} {x y : Xr} {b : Byte} {bytes : List Byte}

theorem Xr.reads_cons (h : x.byteRule c b = some y) : x.reads c (b :: bytes) = (y.settle c).reads c bytes := by
  rw [Xr.reads, h, Option.bind_some]

theorem Xr.reads_withRing (r : Channel) : (x.withRing r).reads c bytes = (x.reads c bytes).map (Xr.withRing r) := by
  induction bytes generalizing x with
  | nil => rfl
  | cons b bytes ih =>
    rw [Xr.reads, Xr.byteRule_withRing, Xr.reads]
    cases x.byteRule c b with
    | none => rfl
    | some y => exact ih (x := y.settle c)

theorem takes_rxPush_xr (s : State) (b : Byte) :
    Takes (.rxPush .xr b) s (s.setXr { s.xr with chan := s.xr.chan.rxPush s.cfg b }) := fun _ => rfl

theorem takes_byteStep_xr (s : State) : Takes (.byteStep .xr) s (s.setXr (s.xr.byteStep s.cfg)) :=
  fun agenda => takeTurn_xr_eq (s.setAgenda agenda)

/-- One byte fed to an idle XR: its rule and the settle, on a ring that is idle again. -/
theorem Xr.byteStep_rxPush (idle : x.chan.Idle c) (legal : 2 ≤ c.rxqCap) (h : x.byteRule c b = some y) :
    ∃ r : Channel, r.Idle c ∧ Xr.byteStep c { x with chan := x.chan.rxPush c b } = (y.settle c).withRing r := by
  have pushed : { x with chan := x.chan.rxPush c b } = x.withRing (x.chan.rxPush c b) :=
    congrArg (fun ch => { x with chan := ch }) (idle.rxPush_eq_withRing legal)
  refine ⟨_, idle.rxPush_consume legal (b := b), ?_⟩
  have rule : ({ x with chan := x.chan.rxPush c b } : Xr).byteRule c b = some (y.withRing (x.chan.rxPush c b)) := by
    rw [pushed, Xr.byteRule_withRing, h, Option.map_some]
  simp only [Xr.byteStep, idle.rxHead_rxPush legal, rule]
  rfl

/-- Feeding an idle XR the bytes is reading them. -/
theorem runTurns_feed_xr {s : State} (idle : s.xr.chan.Idle s.cfg) (legal : 2 ≤ s.cfg.rxqCap)
    (h : s.xr.reads s.cfg bytes = some y) (rest : List Turn) :
    ∃ r : Channel, r.Idle s.cfg ∧
      runTurns s (feed .xr bytes) rest = .next ((s.setXr (y.withRing r)).setAgenda rest) := by
  induction bytes generalizing s y with
  | nil =>
    obtain rfl := Option.some.inj h
    exact ⟨s.xr.chan, idle, rfl⟩
  | cons b bytes ih =>
    obtain ⟨x, hx, later⟩ := Option.bind_eq_some_iff.mp h
    obtain ⟨r, hr, step⟩ := Xr.byteStep_rxPush idle legal hx
    have fed : runTurns s (feed .xr (b :: bytes)) rest =
        runTurns (s.setXr ((x.settle s.cfg).withRing r)) (feed .xr bytes) rest := by
      show runTurns s (.rxPush .xr b :: .byteStep .xr :: feed .xr bytes) rest = _
      rw [(takes_rxPush_xr s b).runTurns_cons, (takes_byteStep_xr _).runTurns_cons, ← step]
      rfl
    obtain ⟨r', hr', run⟩ := ih (s := s.setXr ((x.settle s.cfg).withRing r)) (y := y.withRing r)
      ⟨hr.ring, hr.write, hr.empty⟩ legal
      ((Xr.reads_withRing r).trans (congrArg (Option.map (Xr.withRing r)) later))
    exact ⟨r', hr', fed.trans run⟩

end

/-! ## Bytes written one after the other into a buffer -/

/-- The buffer with the bytes `d` at position `n`. -/
def overwrite (buf : List Byte) (n : Nat) (d : List Byte) : List Byte := buf.take n ++ d ++ buf.drop (n + d.length)

theorem overwrite_nil (buf : List Byte) (n : Nat) : overwrite buf n [] = buf := by
  rw [overwrite, List.append_nil, List.length_nil, Nat.add_zero, List.take_append_drop]

theorem overwrite_set {buf : List Byte} {n : Nat} (h : n < buf.length) (b : Byte) (d : List Byte) :
    overwrite (buf.set n b) (n + 1) d = overwrite buf n (b :: d) := by
  have taken : (buf.set n b).take (n + 1) = buf.take n ++ [b] := by
    have inside : n < (buf.set n b).length := by rwa [List.length_set]
    rw [List.take_succ_eq_append_getElem inside, List.take_set_of_le (Nat.le_refl n), List.getElem_set_self]
  rw [overwrite, taken, List.drop_set_of_lt (by omega), overwrite, List.length_cons]
  simp only [List.append_assoc, List.singleton_append, Nat.add_assoc, Nat.add_comm 1]

theorem take_overwrite_zero (buf d : List Byte) : (overwrite buf 0 d).take d.length = d := by
  rw [overwrite, List.take_zero, List.nil_append, List.take_left']
  rfl

end Sys2Proof.Machine
end

section
/-! A whole KFT packet through FE (R103, R104, R161 to R177): the fields, the payload, and the validation at its end. -/
namespace Sys2Proof.Machine

theorem hi_toNat (v : Half) : (hi v).toNat = v.toNat / 256 := by
  have lt := v.isLt
  simp only [hi, BitVec.extractLsb'_toNat, Nat.shiftRight_eq_div_pow]
  omega

theorem le16_lo_hi (v : Half) : le16 (lo v) (hi v) = v :=
  (eq_le16_of_toNat (by rw [hi_toNat, Nat.mod_add_div])).symm

theorem lo_setWidth (b : Byte) : lo (b.setWidth 16) = b :=
  BitVec.eq_of_toNat_eq (by rw [lo_toNat, BitVec.toNat_setWidth_of_le (by decide), Nat.mod_eq_of_lt b.isLt])

/-- FE in parser state `st`, with these fields of the packet it is reading (R20). -/
def Fe.reading (f : Fe) (type : Byte) (len crc count : Half) (buf : List Byte) (st : RxState) : Fe :=
  { f with rxState := st, pktType := type, pktLen := len, pktCrc := crc, pktCount := count, pktBuf := buf }

section
variable {c : Config} {f : Fe} {type b : Byte} {len crc count : Half} {buf payload bytes : List Byte}

theorem Fe.reads_singleton : f.reads c [b] = f.byteRule c b := by
  rw [Fe.reads]
  exact Option.bind_fun_some _

theorem Fe.byteRule_of_data (notType : f.rxState ≠ .waitType) : f.byteRule c b = f.dataByte c b := if_neg notType

theorem Fe.byteRule_start (hs : f.rxState = .waitStart) :
    f.byteRule c 0x5A = some { f with rxState := .waitType } := by
  rw [Fe.byteRule_of_data (hs.trans_ne (by decide)), Fe.dataByte_waitStart hs, Fe.waitStartByte_start]

theorem Fe.byteRule_packetType (hs : f.rxState = .waitType) (ht : IsPacketType type) :
    f.byteRule c type = some (f.reading type 0 0 0 f.pktBuf .lenLo) := by
  rw [Fe.byteRule, if_pos hs]
  obtain rfl | rfl := ht <;> rfl

theorem Fe.byteRule_reading {st : RxState} (notType : st ≠ .waitType) :
    (f.reading type len crc count buf st).byteRule c b = (f.reading type len crc count buf st).dataByte c b :=
  if_neg notType

theorem Fe.byteRule_lenLo :
    (f.reading type len crc count buf .lenLo).byteRule c b =
      some (f.reading type (b.setWidth 16) crc count buf .lenHi) :=
  (Fe.byteRule_reading (by decide)).trans (Fe.dataByte_lenLo rfl)

theorem Fe.byteRule_lenHi (fits : le16 (lo len) b ≤ f.mps) :
    (f.reading type len crc count buf .lenHi).byteRule c b =
      some (f.reading type (le16 (lo len) b) crc count buf .crcLo) :=
  (Fe.byteRule_reading (by decide)).trans ((Fe.dataByte_lenHi rfl).trans (Fe.lenHiByte_accepted fits))

theorem Fe.byteRule_crcLo :
    (f.reading type len crc count buf .crcLo).byteRule c b =
      some (f.reading type len (b.setWidth 16) count buf .crcHi) :=
  (Fe.byteRule_reading (by decide)).trans (Fe.dataByte_crcLo rfl)

theorem Fe.byteRule_crcHi (more : len ≠ 0) :
    (f.reading type len crc count buf .crcHi).byteRule c b =
      some (f.reading type len (le16 (lo crc) b) count buf .payload) :=
  (Fe.byteRule_reading (by decide)).trans ((Fe.dataByte_crcHi rfl).trans (Fe.crcHiByte_of_payload more))

theorem Fe.byteRule_crcHi_last :
    (f.reading type 0 crc count buf .crcHi).byteRule c b =
      (f.reading type 0 (le16 (lo crc) b) count buf .crcHi).validate c :=
  (Fe.byteRule_reading (by decide)).trans ((Fe.dataByte_crcHi rfl).trans (Fe.crcHiByte_last rfl))

theorem Fe.byteRule_payload (more : count + 1 ≠ len) :
    (f.reading type len crc count buf .payload).byteRule c b =
      some (f.reading type len crc (count + 1) (buf.set count.toNat b) .payload) :=
  (Fe.byteRule_reading (by decide)).trans ((Fe.dataByte_payload rfl).trans (Fe.payloadByte_more more))

theorem Fe.byteRule_payload_last (last : count + 1 = len) :
    (f.reading type len crc count buf .payload).byteRule c b =
      (f.reading type len crc len (buf.set count.toNat b) .payload).validate c :=
  (Fe.byteRule_reading (by decide)).trans ((Fe.dataByte_payload rfl).trans (Fe.payloadByte_last last))

/-- The start byte, the type and the length. -/
theorem Fe.reads_header (hs : f.rxState = .waitStart) (ht : IsPacketType type) (fits : len ≤ f.mps) :
    f.reads c ([0x5A, type, lo len, hi len] ++ bytes) = (f.reading type len 0 0 f.pktBuf .crcLo).reads c bytes := by
  have whole : le16 (lo ((lo len).setWidth 16)) (hi len) = len := by rw [lo_setWidth, le16_lo_hi]
  show f.reads c (0x5A :: type :: lo len :: hi len :: bytes) = _
  rw [Fe.reads_cons (Fe.byteRule_start hs), Fe.reads_cons (Fe.byteRule_packetType rfl ht), Fe.reads_cons Fe.byteRule_lenLo,
    Fe.reads_cons (Fe.byteRule_lenHi (whole.symm ▸ fits)), whole]
  rfl

theorem le16_lo_setWidth_lo_hi (v : Half) : le16 (lo ((lo v).setWidth 16)) (hi v) = v := by rw [lo_setWidth, le16_lo_hi]

/-- The payload, written into the packet buffer, and the validation at its last byte. -/
theorem Fe.reads_payload (room : count.toNat + (payload.length + 1) ≤ buf.length)
    (left : count.toNat + (payload.length + 1) = len.toNat) :
    (f.reading type len crc count buf .payload).reads c (b :: payload) =
      (f.reading type len crc len (overwrite buf count.toNat (b :: payload)) .payload).validate c := by
  have next : (count + 1).toNat = count.toNat + 1 := BitVec.toNat_add_of_lt (by have := len.isLt; simp; omega)
  rw [← overwrite_set (by omega), ← next]
  induction payload generalizing b count buf with
  | nil =>
    rw [List.length_nil] at left
    rw [Fe.reads_singleton, Fe.byteRule_payload_last (BitVec.eq_of_toNat_eq (by omega)), overwrite_nil]
  | cons d payload ih =>
    rw [List.length_cons] at left room
    have more : count + 1 ≠ len := fun same => by rw [← same] at left; omega
    have next' : (count + 1 + 1).toNat = count.toNat + 1 + 1 :=
      (BitVec.toNat_add_of_lt (by have := len.isLt; simp only [next]; simp; omega)).trans (by rw [next]; rfl)
    rw [Fe.reads_cons (Fe.byteRule_payload more),
      ih (by rw [List.length_set]; omega) (by omega) (next'.trans (by rw [next])), ← overwrite_set, next', next]
    rw [List.length_set]; omega

/-- A whole packet: what FE has read when it validates it. -/
theorem Fe.reads_packet (hs : f.rxState = .waitStart) (ht : IsPacketType type) (fits : len ≤ f.mps)
    (size : len.toNat = payload.length) (room : payload.length ≤ f.pktBuf.length) :
    ∃ st, f.reads c ([0x5A, type, lo len, hi len, lo crc, hi crc] ++ payload) =
      (f.reading type len crc len (overwrite f.pktBuf 0 payload) st).validate c := by
  have header := Fe.reads_header (c := c) (bytes := lo crc :: hi crc :: payload) hs ht fits
  rw [Fe.reads_cons Fe.byteRule_crcLo] at header
  cases payload with
  | nil =>
    obtain rfl : len = 0 := BitVec.eq_of_toNat_eq size
    refine ⟨.crcHi, header.trans ?_⟩
    rw [Fe.reads_singleton, Fe.byteRule_crcHi_last, le16_lo_setWidth_lo_hi, overwrite_nil]
  | cons b payload =>
    have more : len ≠ 0 := fun zero => by rw [zero] at size; exact absurd size (by simp)
    refine ⟨.payload, header.trans ?_⟩
    rw [Fe.reads_cons (Fe.byteRule_crcHi more), le16_lo_setWidth_lo_hi]
    rw [List.length_cons] at size room
    exact Fe.reads_payload (count := 0) (by simpa using room) (by simp; omega)

/-! ## What validation makes of it -/

/-- The payload of a whole packet is where validation looks for it. -/
theorem take_packet (size : len.toNat = payload.length) : (overwrite buf 0 payload).take len.toNat = payload := by
  rw [size, take_overwrite_zero]

theorem Fe.crcGood_reading_iff {st : RxState} (size : len.toNat = payload.length) :
    (f.reading type len crc count (overwrite buf 0 payload) st).CrcGood ↔
      crc16Ccitt 0 ([0x5A, type, lo len, hi len] ++ payload) = crc := by
  show packetCrc type len ((overwrite buf 0 payload).take len.toNat) = crc ↔ _
  rw [take_packet size]
  rfl

/-- FE after it delivered `payload`: the slot is filled, ACK is queued, and the abort flag is clear (R176, R177). -/
theorem Fe.validate_delivers {st : RxState} (ht : IsPacketType type) (size : len.toNat = payload.length)
    (good : crc16Ccitt 0 ([0x5A, type, lo len, hi len] ++ payload) = crc) (room : 2 ≤ f.chan.txRoom c)
    (free : f.dlvValid = false) (notAborted : type = 0xA5 → f.isAckAbortNeeded = false) :
    (f.reading type len crc count (overwrite buf 0 payload) st).validate c = some
      { f.reading type len crc count (overwrite buf 0 payload) .waitStart with
        isAckNeeded := false, isAckAbortNeeded := false, dlvValid := true, dlvType := type, dlvLen := len
        dlvPayload := payload ++ f.dlvPayload.drop len.toNat, chan := f.chan.txPush [0x5A, 0xA1] } := by
  have crcGood := (Fe.crcGood_reading_iff (f := f) (type := type) (count := count) (buf := buf) (st := st) size).mpr good
  have taken := take_packet (buf := buf) size
  obtain rfl | rfl := ht
  · rw [Fe.validate_command crcGood rfl]
    refine Eq.trans (Fe.acceptCommand_of_room (f := Fe.reading _ _ _ _ _ _ _) room free) ?_
    simp [Fe.deliver, Fe.reading, Fe.reply, Fe.txPush, syncPacket, taken]
  · rw [Fe.validate_data crcGood rfl]
    refine Eq.trans (Fe.acceptData_delivered (f := Fe.reading _ _ _ _ _ _ _) (notAborted rfl) room free) ?_
    simp [Fe.deliver, Fe.reading, Fe.reply, Fe.txPush, syncPacket, taken, notAborted]

/-- FE after it refused the packet: NAK is queued (R175). -/
theorem Fe.validate_refuses {st : RxState} (size : len.toNat = payload.length)
    (bad : crc16Ccitt 0 ([0x5A, type, lo len, hi len] ++ payload) ≠ crc) (room : 2 ≤ f.chan.txRoom c) :
    (f.reading type len crc count (overwrite buf 0 payload) st).validate c = some
      { f.reading type len crc count (overwrite buf 0 payload) .waitStart with
        chan := f.chan.txPush [0x5A, 0xA2] } :=
  (Fe.validate_bad (mt (Fe.crcGood_reading_iff size).mp bad)).trans (Fe.nak_of_room room)

end
end Sys2Proof.Machine

namespace Sys2Proof.Proofs
open Sys2Proof.Machine

/-- Settles O27: feeding the packet is reading it, and validation delivers it. -/
theorem feDeliversAWholePacket : Obligations.FeDeliversAWholePacket := by
  intro s type payload len c rest inv hs none free room ht notAborted size fits crc
  have inBuf : payload.length ≤ s.fe.pktBuf.length := by
    rw [← size, inv.fe.pktBufSize]
    exact (BitVec.le_def.mp fits).trans inv.fe.mpsHigh
  obtain ⟨st, reads⟩ := Fe.reads_packet (c := s.cfg) (crc := c) hs ht fits size inBuf
  rw [Fe.validate_delivers ht size crc.symm (Nat.le_sub_of_add_le' room) free notAborted] at reads
  obtain ⟨r, idle, run⟩ := runTurns_feed_fe (inv.fe.chan.idle none) inv.legal.1 reads rest
  exact ⟨_, run, rfl, rfl, Channel.Idle.pending ⟨idle.ring, idle.write, idle.empty⟩, rfl, rfl, rfl,
    List.take_left' size.symm, rfl, rfl, rfl, rfl, rfl, rfl, rfl, rfl, rfl, rfl, rfl⟩

/-- Settles O28: feeding the packet is reading it; another byte gives another CRC, and validation queues NAK. -/
theorem feRefusesACorruptedPacket : Obligations.FeRefusesACorruptedPacket := by
  intro s type before after a b len c rest inv hs none room ht differ size fits crc
  have size' : len.toNat = (before ++ b :: after).length := by rw [size, List.length_append, List.length_cons]; omega
  have inBuf : (before ++ b :: after).length ≤ s.fe.pktBuf.length := by
    rw [← size', inv.fe.pktBufSize]
    exact (BitVec.le_def.mp fits).trans inv.fe.mpsHigh
  obtain ⟨st, reads⟩ := Fe.reads_packet (c := s.cfg) (crc := c) hs ht fits size' inBuf
  have bad : crc16Ccitt 0 ([0x5A, type, lo len, hi len] ++ (before ++ b :: after)) ≠ c := by
    rw [crc, ← List.append_assoc]
    exact crc16Ccitt_ne_of_one_byte 0 _ after differ.symm
  rw [Fe.validate_refuses size' bad (Nat.le_sub_of_add_le' room), ← List.append_assoc] at reads
  obtain ⟨r, idle, run⟩ := runTurns_feed_fe (inv.fe.chan.idle none) inv.legal.1 reads rest
  exact ⟨_, run, rfl, rfl, Channel.Idle.pending ⟨idle.ring, idle.write, idle.empty⟩, rfl, rfl, rfl, rfl, rfl, rfl, rfl,
    rfl, rfl, rfl, rfl, rfl, rfl, rfl, rfl⟩

end Sys2Proof.Proofs
end

section
/-! A whole XMODEM frame through XR (R110, R226 to R240): the header, the data, the trailer, and what validation makes of
it. -/
namespace Sys2Proof.Machine

/-! ## The check value -/

theorem be16_hi_lo (v : Half) : be16 (hi v) (lo v) = v := le16_lo_hi v

theorem CheckMode.trailer_crc_eq_iff {d d' : List Byte} :
    CheckMode.crc.trailer d = CheckMode.crc.trailer d' ↔ crc16Ccitt 0 d = crc16Ccitt 0 d' := by
  constructor
  · intro h
    simp only [CheckMode.trailer, List.cons.injEq, and_true] at h
    obtain ⟨high, low⟩ := h
    rw [← be16_hi_lo (crc16Ccitt 0 d), high, low, be16_hi_lo]
  · intro h
    rw [CheckMode.trailer, h, CheckMode.trailer]

theorem CheckMode.trailer_checksum_eq_iff {d d' : List Byte} :
    CheckMode.checksum.trailer d = CheckMode.checksum.trailer d' ↔ sum8 d = sum8 d' := List.singleton_inj

/-- One wrong data byte gives another trailer, in either mode (R140, R144). -/
theorem CheckMode.trailer_ne_of_one_byte (m : CheckMode) (before after : List Byte) {a b : Byte} (h : a ≠ b) :
    m.trailer (before ++ a :: after) ≠ m.trailer (before ++ b :: after) := by
  cases m with
  | checksum => exact fun same => sum8_ne_of_one_byte before after h (CheckMode.trailer_checksum_eq_iff.mp same)
  | crc => exact fun same => crc16Ccitt_ne_of_one_byte 0 before after h (CheckMode.trailer_crc_eq_iff.mp same)

/-! ## Reading a frame -/

/-- XR inside a frame with these fields, its timer armed (R30, R224). -/
def Xr.framing (x : Xr) (c : Config) (large : Bool) (seq : Byte) (count : BitVec 11) (buf : List Byte) (st : XrState) :
    Xr :=
  { x with
    state := st, size1k := large, rxSeq := seq, count := count, tcount := 0, buf := buf, timer := c.xrTimeout }

section
variable {c : Config} {x y : Xr} {large : Bool} {seq b : Byte} {count : BitVec 11} {buf d d' bytes : List Byte}

theorem Xr.byteRule_framing {st : XrState} (notHeader : st ≠ .waitHeader) :
    (x.framing c large seq count buf st).byteRule c b = (x.framing c large seq count buf st).dataByte c b :=
  if_neg notHeader

theorem Xr.reads_active (h : x.byteRule c b = some y) (active : y.state.active = true) :
    x.reads c (b :: bytes) = ({ y with timer := c.xrTimeout } : Xr).reads c bytes := by
  rw [Xr.reads_cons h, Xr.settle_active active]

theorem Xr.reads_header (hs : x.state = .waitHeader) :
    x.reads c ((if large then 0x02 else 0x01) :: bytes) =
      (x.framing c large x.rxSeq 0 x.buf .waitSequence).reads c bytes := by
  have rule : x.byteRule c (if large then 0x02 else 0x01) = some (x.openFrame large) := by
    rw [Xr.byteRule, if_pos hs]
    cases large <;> rfl
  exact Xr.reads_active rule rfl

theorem Xr.reads_sequence :
    (x.framing c large seq count buf .waitSequence).reads c (b :: bytes) =
      (x.framing c large b count buf .waitSequenceComplement).reads c bytes :=
  Xr.reads_active ((Xr.byteRule_framing (by decide)).trans (Xr.dataByte_waitSequence rfl)) rfl

theorem Xr.reads_complement :
    (x.framing c large seq count buf .waitSequenceComplement).reads c (~~~seq :: bytes) =
      (x.framing c large seq 0 buf .receiveData).reads c bytes :=
  Xr.reads_active
    ((Xr.byteRule_framing (by decide)).trans ((Xr.dataByte_waitComplement rfl).trans (Xr.complementByte_match rfl))) rfl

theorem Xr.reads_dataByte (more : count.toNat < if large then 1024 else 128) :
    (x.framing c large seq count buf .receiveData).reads c (b :: bytes) =
      (x.framing c large seq (count + 1) (buf.set count.toNat b) .receiveData).reads c bytes :=
  Xr.reads_active
    ((Xr.byteRule_framing (by decide)).trans ((Xr.dataByte_receiveData rfl).trans (Xr.receiveByte_data more))) rfl

theorem Xr.reads_data (room : count.toNat + d.length ≤ buf.length)
    (left : count.toNat + d.length = if large then 1024 else 128) :
    (x.framing c large seq count buf .receiveData).reads c (d ++ bytes) =
      (x.framing c large seq (count + BitVec.ofNat 11 d.length) (overwrite buf count.toNat d) .receiveData).reads c
        bytes := by
  have small : (if large then 1024 else 128) ≤ 1024 := by split <;> omega
  induction d generalizing count buf with
  | nil => rw [overwrite_nil, List.nil_append, List.length_nil, BitVec.add_zero]
  | cons b d ih =>
    rw [List.length_cons] at room left
    have next : (count + 1).toNat = count.toNat + 1 := BitVec.toNat_add_of_lt (by simp; omega)
    rw [List.cons_append, Xr.reads_dataByte (by omega), ih (by rw [List.length_set]; omega) (by omega), next,
      overwrite_set (by omega), List.length_cons, Nat.add_comm d.length, BitVec.ofNat_add, BitVec.add_assoc]
    rfl

/-- XR at the end of its frame, with the trailer bytes it got (R235). -/
def Xr.framed (x : Xr) (c : Config) (large : Bool) (seq : Byte) (count : BitVec 11) (buf : List Byte) (tcount : BitVec 2)
    (t0 t1 : Byte) : Xr :=
  { x.framing c large seq count buf .receiveData with tcount := tcount, trailer0 := t0, trailer1 := t1 }

theorem Xr.reads_singleton : x.reads c [b] = (x.byteRule c b).map (Xr.settle c) := by
  rw [Xr.reads]
  cases x.byteRule c b <;> rfl

/-- The trailer of the data `d'`: what XR has read when it validates the frame, and when it finds it right. -/
theorem Xr.reads_trailer (full : count.toNat = if large then 1024 else 128) :
    ∃ k t0 t1,
      (x.framing c large seq count buf .receiveData).reads c (x.mode.trailer d') =
        ((x.framed c large seq count buf k t0 t1).validate c).map (Xr.settle c) ∧
      ((x.framed c large seq count buf k t0 t1).checkOk = true ↔
        x.mode.trailer d' = x.mode.trailer (buf.take (if large then 1024 else 128))) := by
  cases hm : x.mode with
  | checksum =>
    refine ⟨0, sum8 d', x.trailer1, ?_, ?_⟩
    · show (x.framing c large seq count buf .receiveData).reads c [sum8 d'] = _
      have last := Xr.receiveByte_last_checksum (c := c) (b := sum8 d') (x := x.framing c large seq count buf .receiveData)
        full hm rfl
      rw [Xr.reads_singleton]
      exact congrArg (Option.map (Xr.settle c)) last
    · refine (Xr.checkOk_last_checksum (x := x.framing c large seq count buf .receiveData) hm).trans ?_
      exact CheckMode.trailer_checksum_eq_iff.symm
  | crc =>
    refine ⟨1, hi (crc16Ccitt 0 d'), lo (crc16Ccitt 0 d'), ?_, ?_⟩
    · show (x.framing c large seq count buf .receiveData).reads c [hi (crc16Ccitt 0 d'), lo (crc16Ccitt 0 d')] = _
      have first := Xr.receiveByte_first_of_two (c := c) (x := x.framing c large seq count buf .receiveData)
        (b := hi (crc16Ccitt 0 d')) full hm rfl
      have second := Xr.receiveByte_last_crc (c := c) (b := lo (crc16Ccitt 0 d'))
        (x := x.framed c large seq count buf 1 (hi (crc16Ccitt 0 d')) x.trailer1) full hm rfl
      rw [Xr.reads_active ((Xr.byteRule_framing (by decide)).trans ((Xr.dataByte_receiveData rfl).trans first)) rfl,
        Xr.reads_singleton]
      exact congrArg (Option.map (Xr.settle c)) second
    · refine (Xr.checkOk_last_crc (b := lo (crc16Ccitt 0 d'))
        (x := x.framed c large seq count buf 1 (hi (crc16Ccitt 0 d')) x.trailer1) hm).trans ?_
      show 256 * (hi _).toNat + (lo _).toNat = _ ↔ _
      rw [← be16_toNat, be16_hi_lo, BitVec.toNat_inj, CheckMode.trailer_crc_eq_iff]
      rfl

/-- A whole frame of data `d` with the trailer of `d'`: what XR has read when it validates it. -/
theorem Xr.reads_frame (hs : x.state = .waitHeader) (size : d.length = if large then 1024 else 128)
    (bufSize : x.buf.length = 1024) :
    ∃ count k t0 t1,
      x.reads c ([if large then 0x02 else 0x01, seq, ~~~seq] ++ d ++ x.mode.trailer d') =
        ((x.framed c large seq count (overwrite x.buf 0 d) k t0 t1).validate c).map (Xr.settle c) ∧
      ((x.framed c large seq count (overwrite x.buf 0 d) k t0 t1).checkOk = true ↔
        x.mode.trailer d' = x.mode.trailer d) := by
  have small : (if large then 1024 else 128) ≤ 1024 := by split <;> omega
  have full : ((0 : BitVec 11) + BitVec.ofNat 11 d.length).toNat = if large then 1024 else 128 := by
    simp
    omega
  have header := Xr.reads_header (c := c) (large := large) (bytes := seq :: ~~~seq :: (d ++ x.mode.trailer d')) hs
  have data := Xr.reads_data (c := c) (x := x) (large := large) (seq := seq) (count := 0) (buf := x.buf) (d := d)
    (bytes := x.mode.trailer d') (by simp; omega) (by simpa using size)
  obtain ⟨k, t0, t1, trailer, right⟩ := Xr.reads_trailer (c := c) (x := x) (large := large) (seq := seq) (d' := d')
    (buf := overwrite x.buf 0 d) full
  rw [← size, take_overwrite_zero] at right
  rw [Xr.reads_sequence, Xr.reads_complement, data] at header
  exact ⟨_, k, t0, t1, by simpa using header.trans trailer, right⟩

/-! ## What validation makes of it -/

theorem Xr.accept_of_room (tx : x.chan.txq.length < c.txqCap) (ev : x.chan.evq.length < c.evqCap) :
    x.accept c = some { (x.post (.xrFrame x.rxSeq (BitVec.ofNat 16 x.frameSize) (x.buf.take x.frameSize))).txPush [0x06] with
      expectedSeq := x.expectedSeq + 1, retry := 0, first := false, state := .waitHeader } :=
  if_pos (Channel.txRoom_and_evRoom tx ev)

end
end Sys2Proof.Machine

namespace Sys2Proof.Proofs
open Sys2Proof.Machine

theorem trailer_eq_match (m : CheckMode) (d : List Byte) :
    (match m with
      | .checksum => [sum8 d]
      | .crc => [hi (crc16Ccitt 0 d), lo (crc16Ccitt 0 d)]) = m.trailer d := by
  cases m <;> rfl

/-- Settles O36: feeding the frame is reading it, and validation accepts it. -/
theorem xrReceivesAWholeFrame : Obligations.XrReceivesAWholeFrame := by
  intro s data trailer large rest inv hs none tx ev size check
  obtain rfl : trailer = s.xr.mode.trailer data := check.trans (trailer_eq_match _ _)
  obtain ⟨count, k, t0, t1, reads, right⟩ := Xr.reads_frame (c := s.cfg) (seq := s.xr.expectedSeq) (d' := data) hs size
    inv.xr.bufSize
  have accepts := (Xr.validate_good (c := s.cfg) rfl (right.mpr rfl)).trans (Xr.accept_of_room tx ev)
  rw [accepts] at reads
  obtain ⟨r, idle, run⟩ := runTurns_feed_xr (inv.xr.chan.idle none) inv.legal.1 reads rest
  refine ⟨_, run, rfl, rfl, Channel.Idle.pending ⟨idle.ring, idle.write, idle.empty⟩, ?_, rfl, rfl, rfl, rfl, rfl, rfl,
    rfl, rfl⟩
  show s.xr.chan.evq ++ [.xrFrame s.xr.expectedSeq (BitVec.ofNat 16 (if large then 1024 else 128))
    ((overwrite s.xr.buf 0 data).take (if large then 1024 else 128))] = _
  rw [← size, take_overwrite_zero, size, apply_ite (BitVec.ofNat 16)]
  rfl

/-- Settles O37: feeding the frame is reading it; another data byte gives another trailer, and XR asks again. -/
theorem xrRefusesACorruptedFrame : Obligations.XrRefusesACorruptedFrame := by
  intro s before after trailer a b large rest inv hs none tx left differ size check
  obtain rfl : trailer = s.xr.mode.trailer (before ++ a :: after) := check.trans (trailer_eq_match _ _)
  have size' : (before ++ b :: after).length = if large then 1024 else 128 := by
    rw [← size, List.length_append, List.length_cons]
    omega
  obtain ⟨count, k, t0, t1, reads, right⟩ := Xr.reads_frame (c := s.cfg) (seq := s.xr.expectedSeq)
    (d' := before ++ a :: after) hs size' inv.xr.bufSize
  have wrong := mt right.mp (s.xr.mode.trailer_ne_of_one_byte before after differ)
  have refuses := (Xr.validate_bad (c := s.cfg) (.inr wrong)).trans (Xr.failurePath_retry left tx)
  rw [refuses] at reads
  obtain ⟨r, idle, run⟩ := runTurns_feed_xr (inv.xr.chan.idle none) inv.legal.1 reads rest
  exact ⟨_, run, rfl, rfl, Channel.Idle.pending ⟨idle.ring, idle.write, idle.empty⟩, rfl, rfl, rfl, rfl, rfl, rfl, rfl,
    rfl, rfl⟩

end Sys2Proof.Proofs
end

section
/-!
The bytes whose value the spec leaves open (U10, U11): FE. A unit that agrees with `f` is `f` with other buffer bytes
(`Fe.withBufs`) and another ring (`Fe.withRing`), the same where a rule can still read (`Fe.BufAgree`,
`Channel.RingAgree`). Each rule keeps that, and answers held or taken alike (`Option.Rel`).
-/
namespace Sys2Proof.Machine

theorem rel_ite {α : Type} {R : α → α → Prop} {p : Prop} [Decidable p] {a a' b b' : α} (yes : p → R a a')
    (no : ¬p → R b b') : R (if p then a else b) (if p then a' else b') := by
  split
  · exact yes ‹_›
  · exact no ‹_›

theorem Option.rel_ite {α : Type} {R : α → α → Prop} {p : Prop} [Decidable p] {a a' b b' : Option α}
    (yes : p → Option.Rel R a a') (no : ¬p → Option.Rel R b b') :
    Option.Rel R (if p then a else b) (if p then a' else b') := Machine.rel_ite yes no

theorem Option.rel_getD {α : Type} {R : α → α → Prop} {a a' : Option α} {x x' : α} (h : Option.Rel R a a')
    (dflt : R x x') : R (a.getD x) (a'.getD x') := by
  cases h with
  | none => exact dflt
  | some h => exact h

theorem Option.rel_isNone {α : Type} {R : α → α → Prop} {a a' : Option α} (h : Option.Rel R a a') :
    a.isNone = a'.isNone := by
  cases h <;> rfl

/-! ## Rings -/

/-- The rings stand at the same offsets, with the same bytes waiting. -/
structure Channel.RingAgree (c : Config) (ch r : Channel) : Prop where
  pending : ch.pending c = r.pending c
  read : ch.readOffset = r.readOffset
  write : ch.writeOffset = r.writeOffset

section
variable {c : Config} {u : UnitId} {ch r : Channel}

theorem Channel.Agree.eq_withRing (h : ch.Agree c r) : r = ch.withRing r := by
  obtain ⟨-, -, -, overflow, txq, evq⟩ := h
  obtain ⟨buf, read, write, overflow', txq', evq'⟩ := r
  simp only at overflow txq evq
  subst overflow txq evq
  rfl

theorem Channel.Agree.ring (h : ch.Agree c r) : ch.RingAgree c r := ⟨h.pending, h.read, h.write⟩

theorem Channel.RingAgree.agree (h : ch.RingAgree c r) : ch.Agree c (ch.withRing r) :=
  ⟨h.pending, h.read, h.write, rfl, rfl, rfl⟩

theorem Channel.Agree.refl (c : Config) (ch : Channel) : ch.Agree c ch := ⟨rfl, rfl, rfl, rfl, rfl, rfl⟩

theorem Channel.RingAgree.rxHead (h : ch.RingAgree c r) (wf : ch.Wf c u) (wf' : r.Wf c u) : r.rxHead = ch.rxHead := by
  rw [wf.rxHead_eq, wf'.rxHead_eq, h.pending]

theorem Channel.Agree.txPush (h : ch.Agree c r) (p : List Byte) : (ch.txPush p).Agree c (r.txPush p) :=
  { h with txq := congrArg (· ++ p) h.txq }

theorem Channel.Agree.evPush (h : ch.Agree c r) (e : Event) : (ch.evPush e).Agree c (r.evPush e) :=
  { h with evq := congrArg (· ++ [e]) h.evq }

/-- Queues that grew leave the ring; the consume then steps over the same byte in both. -/
theorem Channel.RingAgree.consume (h : ch.RingAgree c r) (wf : ch.Wf c u) (wf' : r.Wf c u) {b : Byte}
    (hb : ch.rxHead = some b) {grown : Channel} (grows : ch.Grows grown) :
    (grown.consume c).RingAgree c (r.consume c) := by
  obtain ⟨p, q, -, rfl⟩ := grows
  have nonempty : ch.readOffset ≠ ch.writeOffset := fun empty => by
    rw [Channel.rxHead_of_empty empty] at hb
    cases hb
  refine ⟨?_, congrArg (fun n => (n + 1) % c.rxqCap) h.read, h.write⟩
  show (ch.consume c).pending c = _
  rw [wf.consume_pending nonempty, wf'.consume_pending (by rwa [← h.read, ← h.write]), h.pending]

/-- A push to rings that agree: appended in both, or dropped in both. -/
theorem Channel.Agree.rxPush (h : ch.Agree c r) (wf : ch.Wf c u) (wf' : r.Wf c u) (b : Byte) :
    (ch.rxPush c b).Agree c (r.rxPush c b) := by
  have waiting : r.waiting c = ch.waiting c := by rw [Channel.waiting, Channel.waiting, h.read, h.write]
  by_cases full : ch.waiting c + 1 = c.rxqCap
  · rw [wf.rxPush_full b full, wf'.rxPush_full b (waiting.symm ▸ full)]
    exact { h with overflow := rfl }
  · have room : ch.waiting c + 1 < c.rxqCap := Nat.lt_of_le_of_ne wf.waiting_lt full
    have notFull := mt wf.full_iff.mp full
    have notFull' : (r.writeOffset + 1) % c.rxqCap ≠ r.readOffset := by rwa [← h.read, ← h.write]
    refine ⟨?_, ?_, ?_, ?_, ?_, ?_⟩
    · rw [wf.rxPush_pending b room, wf'.rxPush_pending b (by rwa [waiting]), h.pending]
    all_goals rw [Channel.rxPush_of_room b notFull, Channel.rxPush_of_room b notFull']
    exacts [h.read, congrArg (fun n => (n + 1) % c.rxqCap) h.write, h.overflow, h.txq, h.evq]

theorem Channel.Agree.evDrop (h : ch.Agree c r) : ch.evDrop.Agree c r.evDrop :=
  { h with evq := congrArg List.tail h.evq }

theorem Channel.Agree.txDrop (h : ch.Agree c r) : ch.txDrop.Agree c r.txDrop :=
  { h with txq := congrArg List.tail h.txq }

theorem Channel.Agree.clearOverflow (h : ch.Agree c r) : ch.clearOverflow.Agree c r.clearOverflow :=
  { h with overflow := rfl }

end

/-! ## FE and its buffers -/

/-- FE with other bytes in its packet buffer and its delivery slot. -/
def Fe.withBufs (p d : List Byte) (f : Fe) : Fe := { f with pktBuf := p, dlvPayload := d }

/-- The buffers `p` and `d` have the bytes of FE's that a rule can still read. -/
structure Fe.BufAgree (f : Fe) (p d : List Byte) : Prop where
  pktBuf : f.rxState = .payload → f.pktBuf.take f.pktCount.toNat = p.take f.pktCount.toNat
  dlv : f.dlvValid = true → f.dlvPayload.take f.dlvLen.toNat = d.take f.dlvLen.toNat

/-- The two FEs differ in buffer bytes only, and in none that a rule can still read. -/
def Fe.BufRel (g g' : Fe) : Prop := ∃ p d, g' = g.withBufs p d ∧ g.BufAgree p d

section
variable {c : Config} {f g : Fe} {p d : List Byte} {b : Byte}

/-- A step that leaves the slot, and no packet open in PAYLOAD, needs nothing more of the buffers. -/
theorem Fe.BufAgree.rel (h : f.BufAgree p d) (notPayload : g.rxState ≠ .payload) (valid : g.dlvValid = f.dlvValid)
    (len : g.dlvLen = f.dlvLen) (payload : g.dlvPayload = f.dlvPayload) : Fe.BufRel g (g.withBufs p d) :=
  ⟨p, d, rfl, fun inPacket => absurd inPacket notPayload, by rw [valid, len, payload]; exact h.dlv⟩

theorem Fe.rel_nak (h : f.dlvValid = true → f.dlvPayload.take f.dlvLen.toNat = d.take f.dlvLen.toNat) :
    Option.Rel Fe.BufRel (f.nak c) ((f.withBufs p d).nak c) :=
  Option.rel_ite (fun _ => .some ⟨p, d, rfl, nofun, h⟩) fun _ => .none

theorem Fe.rel_endExchange (h : f.BufAgree p d) (notPayload : f.rxState ≠ .payload) (e : Event) :
    Option.Rel Fe.BufRel (f.endExchange c e) ((f.withBufs p d).endExchange c e) :=
  Option.rel_ite (fun _ => .some (h.rel notPayload rfl rfl rfl)) fun _ => .none

/-- FE back in WAIT_START reads no byte of an open packet. -/
theorem Fe.BufAgree.scan (h : f.BufAgree p d) : ({ f with rxState := .waitStart } : Fe).BufAgree p d := ⟨nofun, h.dlv⟩

theorem Fe.rel_acknowledged (h : f.BufAgree p d) (outcome : Byte → Event) :
    Option.Rel Fe.BufRel (f.acknowledged outcome c) ((f.withBufs p d).acknowledged outcome c) :=
  Option.rel_ite (fun _ => Fe.rel_endExchange h.scan nofun _) fun _ => .some (h.rel nofun rfl rfl rfl)

theorem Fe.rel_nakRule (h : f.BufAgree p d) :
    Option.Rel Fe.BufRel (f.nakRule c) ((f.withBufs p d).nakRule c) :=
  Option.rel_ite
    (fun _ => Option.rel_ite (fun _ => Fe.rel_endExchange h.scan nofun _) fun _ =>
      Option.rel_ite (fun _ => .some (h.rel nofun rfl rfl rfl)) fun _ => .none)
    fun _ => .some (h.rel nofun rfl rfl rfl)

theorem Fe.rel_pingRule (h : f.BufAgree p d) :
    Option.Rel Fe.BufRel (f.pingRule c) ((f.withBufs p d).pingRule c) :=
  Option.rel_ite (fun _ => .some (h.rel nofun rfl rfl rfl)) fun _ => .none

theorem Fe.rel_otherTypeByte (h : f.BufAgree p d) :
    Fe.BufRel (f.otherTypeByte b) ((f.withBufs p d).otherTypeByte b) := by
  unfold Fe.otherTypeByte
  split
  · exact ⟨p, d, rfl, h⟩
  · exact h.rel nofun rfl rfl rfl

theorem Fe.rel_typeByte (h : f.BufAgree p d) :
    Option.Rel Fe.BufRel (f.typeByte c b) ((f.withBufs p d).typeByte c b) :=
  Option.rel_ite (fun _ => Fe.rel_acknowledged h _) fun _ =>
  Option.rel_ite (fun _ => Fe.rel_nakRule h) fun _ =>
  Option.rel_ite (fun _ => Fe.rel_acknowledged h _) fun _ =>
  Option.rel_ite (fun _ => .some (h.rel nofun rfl rfl rfl)) fun _ =>
  Option.rel_ite (fun _ => .some (h.rel nofun rfl rfl rfl)) fun _ =>
  Option.rel_ite (fun _ => Fe.rel_pingRule h) fun _ =>
  Option.rel_ite (fun _ => .some (h.rel nofun rfl rfl rfl)) fun _ => .some (Fe.rel_otherTypeByte h)

/-! ### Validation -/

/-- A delivery takes the packet's bytes, which agree, into both slots. -/
theorem Fe.rel_deliver {type : Byte} (same : f.pktBuf.take f.pktLen.toNat = p.take f.pktLen.toNat)
    (inBuf : f.pktLen.toNat ≤ f.pktBuf.length) (h : g = { f.deliver type with rxState := .waitStart }) :
    Fe.BufRel g { (f.withBufs p d).deliver type with rxState := .waitStart } := by
  subst h
  refine ⟨p, p.take f.pktLen.toNat ++ d.drop f.pktLen.toNat, rfl, nofun, fun _ => ?_⟩
  have size : (f.pktBuf.take f.pktLen.toNat).length = f.pktLen.toNat := List.length_take_of_le inBuf
  show (f.pktBuf.take f.pktLen.toNat ++ f.dlvPayload.drop f.pktLen.toNat).take f.pktLen.toNat =
    (p.take f.pktLen.toNat ++ d.drop f.pktLen.toNat).take f.pktLen.toNat
  rw [← same, List.take_left' size, List.take_left' size]

theorem Fe.rel_validate (h : f.dlvValid = true → f.dlvPayload.take f.dlvLen.toNat = d.take f.dlvLen.toNat)
    (same : f.pktBuf.take f.pktLen.toNat = p.take f.pktLen.toNat) (inBuf : f.pktLen.toNat ≤ f.pktBuf.length) :
    Option.Rel Fe.BufRel (f.validate c) ((f.withBufs p d).validate c) := by
  have slot : ({ f with rxState := .waitStart } : Fe).BufAgree p d := ⟨nofun, h⟩
  have crc : packetCrc f.pktType f.pktLen (f.pktBuf.take f.pktLen.toNat) =
    packetCrc f.pktType f.pktLen (p.take f.pktLen.toNat) := by rw [same]
  show Option.Rel _ (ite _ _ _) (ite (packetCrc f.pktType f.pktLen (p.take f.pktLen.toNat) ≠ f.pktCrc) _ _)
  rw [← crc]
  refine Option.rel_ite (fun _ => ?nak) fun _ => Option.rel_ite (fun _ => ?command) fun _ => ?data
  case nak => exact Fe.rel_nak h
  case command =>
    exact Option.rel_ite (fun _ => .some (Fe.rel_deliver (f := { f with isAckAbortNeeded := false }.reply 0xA1) same inBuf rfl))
      fun _ => .none
  case data =>
    exact Option.rel_ite
      (fun _ => Option.rel_ite (fun _ => .some (slot.rel nofun rfl rfl rfl)) fun _ => .none)
      fun _ => Option.rel_ite (fun _ => .some (Fe.rel_deliver (f := f.reply 0xA1) same inBuf rfl)) fun _ => .none

/-! ### The bytes of a packet -/

theorem take_set_succ {buf p : List Byte} {n : Nat} (inBuf : n < buf.length) (inBuf' : n < p.length)
    (same : buf.take n = p.take n) : (buf.set n b).take (n + 1) = (p.set n b).take (n + 1) := by
  rw [List.take_succ_eq_append_getElem (by rwa [List.length_set]), List.take_succ_eq_append_getElem (by rwa [List.length_set]),
    List.take_set_of_le (Nat.le_refl n), List.take_set_of_le (Nat.le_refl n), List.getElem_set_self,
    List.getElem_set_self, same]

theorem Fe.rel_payloadByte (inv : f.Inv c) (size : p.length = c.mpsMax) (h : f.BufAgree p d) (hs : f.rxState = .payload) :
    Option.Rel Fe.BufRel (f.payloadByte c b) ((f.withBufs p d).payloadByte c b) := by
  have inPacket : f.pktCount.toNat < f.pktLen.toNat := inv.counting hs
  have fits := inv.pktLen_le (.inr (.inr hs))
  have bufSize := inv.pktBufSize
  have next : (f.pktCount + 1).toNat = f.pktCount.toNat + 1 := BitVec.toNat_add_of_lt (by
    have := f.pktLen.isLt
    simp
    omega)
  have same : (f.pktBuf.set f.pktCount.toNat b).take (f.pktCount + 1).toNat =
      (p.set f.pktCount.toNat b).take (f.pktCount + 1).toNat := by
    rw [next]
    exact take_set_succ (by omega) (by omega) (h.pktBuf hs)
  refine Option.rel_ite (fun last => ?_) fun _ => .some ⟨p.set f.pktCount.toNat b, d, rfl, fun _ => same, h.dlv⟩
  refine Fe.rel_validate (f := { f with pktBuf := f.pktBuf.set f.pktCount.toNat b, pktCount := f.pktCount + 1 })
    (p := p.set f.pktCount.toNat b) h.dlv ?_ ?_
  · show (f.pktBuf.set f.pktCount.toNat b).take f.pktLen.toNat = (p.set f.pktCount.toNat b).take f.pktLen.toNat
    rw [← (last : f.pktCount + 1 = f.pktLen)]
    exact same
  · show f.pktLen.toNat ≤ (f.pktBuf.set f.pktCount.toNat b).length
    rw [List.length_set]
    omega

theorem Fe.rel_crcHiByte (inv : f.Inv c) (h : f.BufAgree p d) (hs : f.rxState = .crcHi) :
    Option.Rel Fe.BufRel (f.crcHiByte c b) ((f.withBufs p d).crcHiByte c b) := by
  have fresh : f.pktCount = 0 := inv.fresh (.inr (.inr (.inr hs)))
  refine Option.rel_ite (fun empty => ?_) fun _ => .some ⟨p, d, rfl, fun _ => ?_, h.dlv⟩
  · have zero : f.pktLen.toNat = 0 := congrArg BitVec.toNat (empty : f.pktLen = 0)
    refine Fe.rel_validate (f := { f with pktCrc := le16 (lo f.pktCrc) b }) h.dlv ?_ ?_
    · show f.pktBuf.take f.pktLen.toNat = p.take f.pktLen.toNat
      rw [zero, List.take_zero, List.take_zero]
    · show f.pktLen.toNat ≤ _
      rw [zero]
      exact Nat.zero_le _
  · show f.pktBuf.take f.pktCount.toNat = p.take f.pktCount.toNat
    rw [fresh]
    rfl

theorem Fe.rel_dataByte (inv : f.Inv c) (size : p.length = c.mpsMax) (h : f.BufAgree p d) :
    Option.Rel Fe.BufRel (f.dataByte c b) ((f.withBufs p d).dataByte c b) := by
  have state : (f.withBufs p d).rxState = f.rxState := rfl
  unfold Fe.dataByte
  rw [state]
  split
  case h_1 =>
    refine .some ?_
    unfold Fe.waitStartByte
    split
    · exact h.rel nofun rfl rfl rfl
    · exact ⟨p, d, rfl, h⟩
  case h_2 => exact .none
  case h_3 => exact .some (h.rel nofun rfl rfl rfl)
  case h_4 =>
    exact Option.rel_ite (fun _ => Fe.rel_nak (f := { f with pktLen := _ }) h.dlv) fun _ =>
      .some (h.rel nofun rfl rfl rfl)
  case h_5 => exact .some (h.rel nofun rfl rfl rfl)
  case h_6 hs => exact Fe.rel_crcHiByte inv h hs
  case h_7 hs => exact Fe.rel_payloadByte inv size h hs

theorem Fe.rel_byteRule (inv : f.Inv c) (size : p.length = c.mpsMax) (h : f.BufAgree p d) :
    Option.Rel Fe.BufRel (f.byteRule c b) ((f.withBufs p d).byteRule c b) :=
  Option.rel_ite (fun _ => Fe.rel_typeByte h) fun _ => Fe.rel_dataByte inv size h

end
end Sys2Proof.Machine
end

section
/-! FEs that agree stay so over every turn (U10, U11). -/
namespace Sys2Proof.Machine

section
variable {c : Config} {f f' g g' : Fe} {p d : List Byte} {r : Channel}

/-- An FE that agrees is the same one with other buffer bytes and another ring. -/
theorem Fe.Agree.eq (h : f.Agree c f') : f' = (f.withBufs f'.pktBuf f'.dlvPayload).withRing f'.chan := by
  have rest := congrArg (fun g : Fe => { g with pktBuf := f'.pktBuf, dlvPayload := f'.dlvPayload }) h.rest
  have chan : { f with pktBuf := f'.pktBuf, dlvPayload := f'.dlvPayload, chan := f'.chan } =
      (f.withBufs f'.pktBuf f'.dlvPayload).withRing f'.chan :=
    congrArg (fun ch => { f with pktBuf := f'.pktBuf, dlvPayload := f'.dlvPayload, chan := ch }) h.chan.eq_withRing
  exact rest.symm.trans chan

theorem Fe.Agree.bufs (h : f.Agree c ((f.withBufs p d).withRing r)) : f.BufAgree p d := ⟨h.pktBuf, h.dlv⟩

theorem Fe.BufRel.agree (h : Fe.BufRel g g') (ring : g.chan.RingAgree c r) : g.Agree c (g'.withRing r) := by
  obtain ⟨p, d, rfl, bufs⟩ := h
  exact ⟨ring.agree, rfl, bufs.pktBuf, bufs.dlv⟩

/-- An agreeing FE, taken apart: what it differs in, and that the invariants hold of it. -/
theorem Fe.Agree.cases (h : f.Agree c f') (inv' : f'.Inv c) :
    ∃ p d r, f' = (f.withBufs p d).withRing r ∧ p.length = c.mpsMax ∧ r.Wf c .fe ∧ f.BufAgree p d ∧
      f.chan.RingAgree c r :=
  ⟨_, _, _, h.eq, inv'.pktBufSize, inv'.chan, Fe.Agree.bufs (h.eq ▸ h), h.chan.ring⟩

theorem Fe.agree_byteStep (inv : f.Inv c) (inv' : f'.Inv c) (h : f.Agree c f') :
    (f.byteStep c).Agree c (f'.byteStep c) := by
  obtain ⟨p, d, r, rfl, size, wf', bufs, ring⟩ := h.cases inv'
  have head : ((f.withBufs p d).withRing r).chan.rxHead = f.chan.rxHead := ring.rxHead inv.chan wf'
  cases hb : f.chan.rxHead with
  | none => simpa only [Fe.byteStep, head, hb] using h
  | some b =>
    have rel := Fe.rel_byteRule (b := b) inv size bufs
    have grows {g : Fe} : f.byteRule c b = some g → f.chan.Grows g.chan := Fe.grows_byteRule
    simp only [Fe.byteStep, head, hb, Fe.byteRule_withRing]
    generalize f.byteRule c b = y at rel grows
    generalize (f.withBufs p d).byteRule c b = y' at rel
    cases rel with
    | none => exact h
    | some rel =>
      obtain ⟨p', d', rfl, bufs'⟩ := rel
      exact Fe.BufRel.agree (g := Fe.consume c _) ⟨p', d', rfl, bufs'.pktBuf, bufs'.dlv⟩
        (ring.consume inv.chan wf' hb (grows rfl))

theorem Fe.rel_tick (inv' : f'.Inv c) (h : f.Agree c f') : Option.Rel (Fe.Agree c) (f.tick c) (f'.tick c) := by
  obtain ⟨p, d, r, rfl, -, -, -, -⟩ := h.cases inv'
  exact Option.rel_ite (fun _ => .some h) fun _ =>
    Option.rel_ite (fun _ => .some ⟨h.chan, rfl, h.pktBuf, h.dlv⟩) fun _ =>
    Option.rel_ite (fun _ => .some ⟨h.chan.evPush _, rfl, h.pktBuf, h.dlv⟩) fun _ => .none

theorem Fe.agree_ticked (inv' : f'.Inv c) (h : f.Agree c f') : (f.ticked c).Agree c (f'.ticked c) :=
  Option.rel_getD (Fe.rel_tick inv' h) h

theorem Fe.agree_obey (inv' : f'.Inv c) (h : f.Agree c f') (i : Instr) : (f.obey c i).Agree c (f'.obey c i) := by
  obtain ⟨p, d, r, rfl, -, -, -, -⟩ := h.cases inv'
  cases i with
  | regWrite reg v => exact rel_ite (fun _ => ⟨h.chan, rfl, h.pktBuf, h.dlv⟩) fun _ => h
  | evPop unit => exact rel_ite (fun _ => ⟨h.chan.evDrop, rfl, h.pktBuf, h.dlv⟩) fun _ => h
  | feSend type len bytes => exact rel_ite (fun _ => ⟨h.chan.txPush _, rfl, h.pktBuf, h.dlv⟩) fun _ => h
  | feTake => exact ⟨h.chan, rfl, h.pktBuf, nofun⟩
  | feAbortDataPhase => exact ⟨h.chan, rfl, h.pktBuf, h.dlv⟩
  | feClrOvf => exact ⟨h.chan.clearOverflow, rfl, h.pktBuf, h.dlv⟩
  | _ => exact h

theorem Fe.Agree.refl (c : Config) (f : Fe) : f.Agree c f := ⟨.refl c _, rfl, fun _ => rfl, fun _ => rfl⟩

/-- FEs that agree on all but the channel, with channels that agree. -/
theorem Fe.Agree.withChan (inv' : f'.Inv c) (h : f.Agree c f') {ch ch' : Channel} (chan : ch.Agree c ch') :
    ({ f with chan := ch } : Fe).Agree c { f' with chan := ch' } := by
  obtain ⟨p, d, r, rfl, -, -, -, -⟩ := h.cases inv'
  exact ⟨chan, rfl, h.pktBuf, h.dlv⟩

theorem Fe.agree_after (inv : f.Inv c) (inv' : f'.Inv c) (h : f.Agree c f') (n : Nat) (turn : Turn) :
    (f.after c n turn).Agree c (f'.after c n turn) := by
  cases turn with
  | command k =>
    cases hd : decode (.command k) with
    | instr i => simpa only [Fe.after, hd] using Fe.agree_obey inv' h i
    | reject e => simpa only [Fe.after, hd] using h
  | rxPush u b =>
    cases u with
    | fe => exact h.withChan inv' (h.chan.rxPush inv.chan inv'.chan b)
    | _ => exact h
  | txPop u =>
    cases u with
    | fe => exact h.withChan inv' h.chan.txDrop
    | _ => exact h
  | byteStep u =>
    cases u with
    | fe => exact Fe.agree_byteStep inv inv' h
    | _ => exact h
  | tick u =>
    cases u with
    | fe => exact Fe.agree_ticked inv' h
    | _ => exact h
  | retryTick u =>
    cases u with
    | fe => exact rel_ite (fun _ => h) fun _ => Fe.agree_ticked inv' h
    | _ => exact h
  | emit => exact h
  | reset => exact .refl c _

end

end Sys2Proof.Machine
end

section
/-! XRs that agree stay so over every turn (U10, U11): they differ in frame bytes not yet received, which no rule reads. -/
namespace Sys2Proof.Machine

/-- XR with other bytes in its frame buffer. -/
def Xr.withBuf (p : List Byte) (x : Xr) : Xr := { x with buf := p }

/-- The buffer `p` has the bytes of XR's that a rule can still read. -/
def Xr.BufAgree (x : Xr) (p : List Byte) : Prop :=
  x.state = .receiveData → x.buf.take x.count.toNat = p.take x.count.toNat

/-- The two XRs differ in buffer bytes only, and in none that a rule can still read. -/
def Xr.BufRel (y y' : Xr) : Prop := ∃ p, y' = y.withBuf p ∧ y.BufAgree p

section
variable {c : Config} {x x' y y' : Xr} {p : List Byte} {b : Byte} {r : Channel}

/-! ## Byte rules -/

/-- Outside RECEIVE_DATA no rule reads the buffer. -/
theorem Xr.bufRel_of_ne (notData : y.state ≠ .receiveData) : Xr.BufRel y (y.withBuf p) :=
  ⟨p, rfl, fun inData => absurd inData notData⟩

theorem Xr.rel_eotRule : Option.Rel Xr.BufRel (x.eotRule c) ((x.withBuf p).eotRule c) :=
  Option.rel_ite (fun _ => .some (Xr.bufRel_of_ne nofun)) fun _ => .none

theorem Xr.rel_canRule : Option.Rel Xr.BufRel (x.canRule c) ((x.withBuf p).canRule c) :=
  Option.rel_ite (fun _ => .some (Xr.bufRel_of_ne nofun)) fun _ => .none

theorem Xr.rel_failurePath : Option.Rel Xr.BufRel (x.failurePath c) ((x.withBuf p).failurePath c) :=
  Option.rel_ite
    (fun _ => Option.rel_ite (fun _ => .some (Xr.bufRel_of_ne nofun)) fun _ => .none)
    fun _ => Option.rel_ite (fun _ => .some (Xr.bufRel_of_ne nofun)) fun _ => .none

theorem Xr.rel_headerByte (h : x.BufAgree p) : Option.Rel Xr.BufRel (x.headerByte c b) ((x.withBuf p).headerByte c b) :=
  Option.rel_ite (fun _ => .some (Xr.bufRel_of_ne nofun)) fun _ =>
  Option.rel_ite (fun _ => .some (Xr.bufRel_of_ne nofun)) fun _ =>
  Option.rel_ite (fun _ => Xr.rel_eotRule) fun _ =>
  Option.rel_ite (fun _ => Xr.rel_canRule) fun _ => .some ⟨p, rfl, h⟩

theorem Xr.rel_complementByte : Option.Rel Xr.BufRel (x.complementByte c b) ((x.withBuf p).complementByte c b) :=
  Option.rel_ite (fun _ => .some ⟨p, rfl, fun _ => rfl⟩) fun _ =>
  Option.rel_ite (fun _ => Xr.rel_canRule) fun _ =>
  Option.rel_ite (fun _ => Xr.rel_eotRule) fun _ =>
  Option.rel_ite (fun _ => .some (Xr.bufRel_of_ne nofun)) fun _ => Xr.rel_failurePath

/-- The accepted frame's bytes agree, so the records do. -/
theorem Xr.rel_accept (same : x.buf.take x.frameSize = p.take x.frameSize) :
    Option.Rel Xr.BufRel (x.accept c) ((x.withBuf p).accept c) := by
  refine Option.rel_ite (fun _ => .some ⟨p, ?_, nofun⟩) fun _ => .none
  show { ((x.withBuf p).post (.xrFrame x.rxSeq (BitVec.ofNat 16 x.frameSize) (p.take x.frameSize))).txPush [0x06] with
    expectedSeq := x.expectedSeq + 1, retry := 0, first := false, state := .waitHeader } = _
  rw [← same]
  rfl

theorem Xr.checkOk_withBuf (same : x.buf.take x.frameSize = p.take x.frameSize) :
    (x.withBuf p).checkOk = x.checkOk := by
  have mode : (x.withBuf p).mode = x.mode := rfl
  have read : (x.withBuf p).buf.take (x.withBuf p).frameSize = x.buf.take x.frameSize := same.symm
  unfold Xr.checkOk
  rw [read, mode]
  rfl

theorem Xr.rel_validate (same : x.buf.take x.frameSize = p.take x.frameSize) :
    Option.Rel Xr.BufRel (x.validate c) ((x.withBuf p).validate c) := by
  show Option.Rel _ (if x.rxSeq = x.expectedSeq ∧ x.checkOk = true then _ else _)
    (if x.rxSeq = x.expectedSeq ∧ (x.withBuf p).checkOk = true then _ else _)
  rw [Xr.checkOk_withBuf same]
  exact Option.rel_ite (fun _ => Xr.rel_accept (x := { x with count := 0, tcount := 0 }) same) fun _ =>
    Xr.rel_failurePath (x := { x with count := 0, tcount := 0 })

theorem Xr.storeTrailer_eq (x : Xr) (b : Byte) :
    x.storeTrailer b = { x with
      trailer0 := if x.tcount = 0 then b else x.trailer0, trailer1 := if x.tcount = 0 then x.trailer1 else b } := by
  unfold Xr.storeTrailer
  split <;> rfl

theorem Xr.rel_receiveByte (inv : x.Inv c) (size : p.length = 1024) (h : x.BufAgree p) (hs : x.state = .receiveData) :
    Option.Rel Xr.BufRel (x.receiveByte c b) ((x.withBuf p).receiveByte c b) := by
  have inFrame := inv.countOk
  have bufSize := inv.bufSize
  unfold Xr.receiveByte
  simp only [Xr.storeTrailer_eq]
  refine Option.rel_ite (fun more => .some ⟨p.set x.count.toNat b, rfl, fun _ => ?_⟩) fun full =>
    Option.rel_ite (fun _ => ?_) fun _ => .some ⟨p, rfl, fun _ => h hs⟩
  · have fits : x.frameSize ≤ 1024 := by obtain hN | hN := x.frameSize_cases <;> omega
    have next : (x.count + 1).toNat = x.count.toNat + 1 := BitVec.toNat_add_of_lt (by simp; omega)
    show (x.buf.set x.count.toNat b).take (x.count + 1).toNat = (p.set x.count.toNat b).take (x.count + 1).toNat
    rw [next]
    exact take_set_succ (by omega) (by omega) (h hs)
  · refine Xr.rel_validate (p := p) ?_
    show x.buf.take x.frameSize = p.take x.frameSize
    rw [← Nat.le_antisymm inFrame (Nat.not_lt.mp full)]
    exact h hs

theorem Xr.rel_byteRule (inv : x.Inv c) (size : p.length = 1024) (h : x.BufAgree p) :
    Option.Rel Xr.BufRel (x.byteRule c b) ((x.withBuf p).byteRule c b) := by
  refine Option.rel_ite (fun _ => Xr.rel_headerByte h) fun _ => ?_
  have state : (x.withBuf p).state = x.state := rfl
  unfold Xr.dataByte
  rw [state]
  split
  case h_5 => exact .none
  case h_6 => exact .some (Xr.bufRel_of_ne nofun)
  case h_7 => exact Xr.rel_complementByte
  case h_8 hs => exact Xr.rel_receiveByte inv size h hs
  all_goals exact .some ⟨p, rfl, h⟩

/-! ## Turns -/

/-- An XR that agrees is the same one with other buffer bytes and another ring. -/
theorem Xr.Agree.eq (h : x.Agree c x') : x' = (x.withBuf x'.buf).withRing x'.chan := by
  have rest := congrArg (fun y : Xr => { y with buf := x'.buf }) h.rest
  have chan : { x with buf := x'.buf, chan := x'.chan } = (x.withBuf x'.buf).withRing x'.chan :=
    congrArg (fun ch => { x with buf := x'.buf, chan := ch }) h.chan.eq_withRing
  exact rest.symm.trans chan

theorem Xr.Agree.bufs (h : x.Agree c ((x.withBuf p).withRing r)) : x.BufAgree p := h.buf

theorem Xr.BufRel.agree (h : Xr.BufRel y y') (ring : y.chan.RingAgree c r) : y.Agree c (y'.withRing r) := by
  obtain ⟨p, rfl, buf⟩ := h
  exact ⟨ring.agree, rfl, buf⟩

/-- An agreeing XR, taken apart: what it differs in, and that the invariants hold of it. -/
theorem Xr.Agree.cases (h : x.Agree c x') (inv' : x'.Inv c) :
    ∃ p r, x' = (x.withBuf p).withRing r ∧ p.length = 1024 ∧ r.Wf c .xr ∧ x.BufAgree p ∧ x.chan.RingAgree c r :=
  ⟨_, _, h.eq, inv'.bufSize, inv'.chan, Xr.Agree.bufs (h.eq ▸ h), h.chan.ring⟩

theorem Xr.agree_byteStep (inv : x.Inv c) (inv' : x'.Inv c) (h : x.Agree c x') :
    (x.byteStep c).Agree c (x'.byteStep c) := by
  obtain ⟨p, r, rfl, size, wf', buf, ring⟩ := h.cases inv'
  have head : ((x.withBuf p).withRing r).chan.rxHead = x.chan.rxHead := ring.rxHead inv.chan wf'
  cases hb : x.chan.rxHead with
  | none => simpa only [Xr.byteStep, head, hb] using h
  | some b =>
    have rel := Xr.rel_byteRule (b := b) inv size buf
    have grows {y : Xr} : x.byteRule c b = some y → x.chan.Grows y.chan := Xr.grows_byteRule
    simp only [Xr.byteStep, head, hb, Xr.byteRule_withRing]
    generalize x.byteRule c b = o at rel grows
    generalize (x.withBuf p).byteRule c b = o' at rel
    cases rel with
    | none => exact h
    | some rel =>
      obtain ⟨p', rfl, buf'⟩ := rel
      have grown := grows rfl
      exact Xr.BufRel.agree (y := Xr.consume c (Xr.settle c _)) ⟨p', rfl, buf'⟩ (ring.consume inv.chan wf' hb grown)

theorem Xr.rel_tick (inv' : x'.Inv c) (h : x.Agree c x') : Option.Rel (Xr.Agree c) (x.tick c) (x'.tick c) := by
  obtain ⟨p, r, rfl, -, -, -, -⟩ := h.cases inv'
  exact Option.rel_ite (fun _ => .some h) fun _ =>
    Option.rel_ite (fun _ => .some ⟨h.chan, rfl, h.buf⟩) fun _ =>
    Option.rel_ite (fun _ => .some ⟨h.chan.evPush _, rfl, nofun⟩) fun _ => .none

theorem Xr.agree_ticked (inv' : x'.Inv c) (h : x.Agree c x') : (x.ticked c).Agree c (x'.ticked c) :=
  Option.rel_getD (Xr.rel_tick inv' h) h

theorem Xr.agree_obey (inv' : x'.Inv c) (h : x.Agree c x') (i : Instr) : (x.obey c i).Agree c (x'.obey c i) := by
  obtain ⟨p, r, rfl, -, -, -, -⟩ := h.cases inv'
  cases i with
  | evPop unit => exact rel_ite (fun _ => ⟨h.chan.evDrop, rfl, h.buf⟩) fun _ => h
  | xrStart mode => exact rel_ite (fun _ => ⟨h.chan.txPush _, rfl, nofun⟩) fun _ => h
  | xrCancel => exact rel_ite (fun _ => ⟨h.chan.txPush _, rfl, nofun⟩) fun _ => h
  | xrClrOvf => exact ⟨h.chan.clearOverflow, rfl, h.buf⟩
  | _ => exact h

theorem Xr.Agree.refl (c : Config) (x : Xr) : x.Agree c x := ⟨.refl c _, rfl, fun _ => rfl⟩

/-- XRs that agree on all but the channel, with channels that agree. -/
theorem Xr.Agree.withChan (inv' : x'.Inv c) (h : x.Agree c x') {ch ch' : Channel} (chan : ch.Agree c ch') :
    ({ x with chan := ch } : Xr).Agree c { x' with chan := ch' } := by
  obtain ⟨p, r, rfl, -, -, -, -⟩ := h.cases inv'
  exact ⟨chan, rfl, h.buf⟩

theorem Xr.agree_after (inv : x.Inv c) (inv' : x'.Inv c) (h : x.Agree c x') (n : Nat) (turn : Turn) :
    (x.after c n turn).Agree c (x'.after c n turn) := by
  cases turn with
  | command k =>
    cases hd : decode (.command k) with
    | instr i => simpa only [Xr.after, hd] using Xr.agree_obey inv' h i
    | reject e => simpa only [Xr.after, hd] using h
  | rxPush u b =>
    cases u with
    | xr => exact h.withChan inv' (h.chan.rxPush inv.chan inv'.chan b)
    | _ => exact h
  | txPop u =>
    cases u with
    | xr => exact h.withChan inv' h.chan.txDrop
    | _ => exact h
  | byteStep u =>
    cases u with
    | xr => exact Xr.agree_byteStep inv inv' h
    | _ => exact h
  | tick u =>
    cases u with
    | xr => exact Xr.agree_ticked inv' h
    | _ => exact h
  | retryTick u =>
    cases u with
    | xr => exact rel_ite (fun _ => h) fun _ => Xr.agree_ticked inv' h
    | _ => exact h
  | emit => exact h
  | reset => exact .refl c _

end
end Sys2Proof.Machine
end

section
/-! XTs that agree stay so over every turn (U10, U11): they differ in their frame buffer while no frame is held, and beyond
the frame size, where no emission reads. -/
namespace Sys2Proof.Machine

/-- XT with other bytes in its frame buffer. -/
def Xt.withBuf (p : List Byte) (x : Xt) : Xt := { x with buf := p }

/-- The buffer `p` has the bytes of XT's that an emission can still read. -/
def Xt.BufAgree (x : Xt) (p : List Byte) : Prop :=
  x.state.holdsFrame = true → x.buf.take x.mode.frameSize = p.take x.mode.frameSize

/-- The two XTs differ in buffer bytes only, and in none that an emission can still read. -/
def Xt.BufRel (y y' : Xt) : Prop := ∃ p, y' = y.withBuf p ∧ y.BufAgree p

section
variable {c : Config} {x x' y y' : Xt} {p : List Byte} {b : Byte} {r : Channel}

/-! ## Byte rules -/

/-- Without a frame nothing of the buffer is read. -/
theorem Xt.bufRel_of_no_frame (none : y.state.holdsFrame = false) : Xt.BufRel y (y.withBuf p) :=
  ⟨p, rfl, fun holds => absurd holds (ne_true_of_eq_false none)⟩

theorem Xt.rel_selectMode (m : CheckMode) : Option.Rel Xt.BufRel (x.selectMode m c) ((x.withBuf p).selectMode m c) :=
  Option.rel_ite (fun _ => .some (Xt.bufRel_of_no_frame rfl)) fun _ => .none

theorem Xt.rel_canRule : Option.Rel Xt.BufRel (x.canRule c) ((x.withBuf p).canRule c) :=
  Option.rel_ite (fun _ => .some (Xt.bufRel_of_no_frame rfl)) fun _ => .none

theorem Xt.rel_exhausted : Option.Rel Xt.BufRel (x.exhausted c) ((x.withBuf p).exhausted c) :=
  Option.rel_ite (fun _ => .some (Xt.bufRel_of_no_frame rfl)) fun _ => .none

theorem Xt.rel_ackRule : Option.Rel Xt.BufRel (x.ackRule c) ((x.withBuf p).ackRule c) :=
  Option.rel_ite
    (fun _ => Option.rel_ite
      (fun _ => Option.rel_ite (fun _ => .some (Xt.bufRel_of_no_frame rfl)) fun _ => .some (Xt.bufRel_of_no_frame rfl))
      fun _ => .none)
    fun _ => Option.rel_ite (fun _ => .some (Xt.bufRel_of_no_frame rfl)) fun _ => .none

theorem Xt.rel_nakRule (h : x.BufAgree p) : Option.Rel Xt.BufRel (x.nakRule c) ((x.withBuf p).nakRule c) :=
  Option.rel_ite
    (fun awaits => Option.rel_ite (fun _ => Xt.rel_exhausted) fun _ =>
      .some ⟨p, rfl, fun _ => h (by rw [awaits]; rfl)⟩)
    fun _ => Option.rel_ite (fun _ => Xt.rel_exhausted) fun _ =>
      Option.rel_ite (fun _ => .some ⟨p, rfl, h⟩) fun _ => .none

theorem Xt.rel_discardByte (h : x.BufAgree p) : Xt.BufRel (x.discardByte c) ((x.withBuf p).discardByte c) :=
  rel_ite (fun _ => ⟨p, rfl, h⟩) fun _ => ⟨p, rfl, h⟩

theorem Xt.rel_byteRule (h : x.BufAgree p) : Option.Rel Xt.BufRel (x.byteRule c b) ((x.withBuf p).byteRule c b) :=
  Option.rel_ite (fun _ => Xt.rel_selectMode _) fun _ =>
  Option.rel_ite (fun _ => Xt.rel_selectMode _) fun _ =>
  Option.rel_ite (fun _ => Xt.rel_ackRule) fun _ =>
  Option.rel_ite (fun _ => Xt.rel_nakRule h) fun _ =>
  Option.rel_ite (fun _ => Xt.rel_canRule) fun _ => .some (Xt.rel_discardByte h)

/-! ## Emission -/

theorem Xt.rel_emitData (inv : x.Inv c) (h : x.BufAgree p) (hs : x.state = .sendData) :
    Option.Rel Xt.BufRel x.emitData (x.withBuf p).emitData := by
  have same := h (by rw [hs]; rfl)
  have read : p[x.sent.toNat]? = x.buf[x.sent.toNat]? := by
    rw [← List.getElem?_take_of_lt (inv.sending hs), ← same, List.getElem?_take_of_lt (inv.sending hs)]
  have byte : (x.withBuf p).buf[(x.withBuf p).sent.toNat]? = x.buf[x.sent.toNat]? := read
  unfold Xt.emitData
  rw [byte]
  cases x.buf[x.sent.toNat]? with
  | none => exact .none
  | some b => exact .some (rel_ite (fun _ => ⟨p, rfl, fun _ => same⟩) fun _ => ⟨p, rfl, fun _ => same⟩)

/-- The trailer's emission leaves the frame. -/
theorem Xt.emitChecksum_keeps (c : Config) (x : Xt) :
    (x.emitChecksum c).buf = x.buf ∧ (x.emitChecksum c).mode = x.mode := by
  cases hm : x.mode with
  | checksum => rw [Xt.emitChecksum_checksum hm]; exact ⟨rfl, hm⟩
  | crc =>
    cases ht : x.tidx with
    | false => rw [Xt.emitChecksum_crc_first hm ht]; exact ⟨rfl, hm⟩
    | true => rw [Xt.emitChecksum_crc_second hm ht]; exact ⟨rfl, hm⟩

theorem Xt.emitChecksum_withBuf (same : x.buf.take x.mode.frameSize = p.take x.mode.frameSize) :
    (x.withBuf p).emitChecksum c = (x.emitChecksum c).withBuf p := by
  cases hm : x.mode with
  | checksum =>
    have same' : p.take 128 = x.buf.take 128 := by rw [hm] at same; exact same.symm
    rw [Xt.emitChecksum_checksum hm, Xt.emitChecksum_checksum (x := x.withBuf p) hm, ← same']
    rfl
  | crc =>
    have same' : p.take 1024 = x.buf.take 1024 := by rw [hm] at same; exact same.symm
    cases ht : x.tidx with
    | false =>
      rw [Xt.emitChecksum_crc_first hm ht, Xt.emitChecksum_crc_first (x := x.withBuf p) hm ht, ← same']
      rfl
    | true =>
      rw [Xt.emitChecksum_crc_second hm ht, Xt.emitChecksum_crc_second (x := x.withBuf p) hm ht, ← same']
      rfl

theorem Xt.rel_emitChecksum (h : x.BufAgree p) (hs : x.state = .sendChecksum) :
    Xt.BufRel (x.emitChecksum c) ((x.withBuf p).emitChecksum c) := by
  have same := h (by rw [hs]; rfl)
  obtain ⟨buf, mode⟩ := x.emitChecksum_keeps c
  exact ⟨p, Xt.emitChecksum_withBuf same, fun _ => by rw [buf, mode]; exact same⟩

theorem Xt.rel_emit (inv : x.Inv c) (h : x.BufAgree p) : Option.Rel Xt.BufRel (x.emit c) ((x.withBuf p).emit c) := by
  refine Option.rel_ite (fun _ => .none) fun _ => ?_
  have state : (x.withBuf p).state = x.state := rfl
  rw [state]
  split
  case h_1 hs => exact .some ⟨p, rfl, fun _ => h (by rw [hs]; rfl)⟩
  case h_2 hs => exact .some ⟨p, rfl, fun _ => h (by rw [hs]; rfl)⟩
  case h_3 hs => exact .some ⟨p, rfl, fun _ => h (by rw [hs]; rfl)⟩
  case h_4 hs => exact Xt.rel_emitData inv h hs
  case h_5 hs => exact .some (Xt.rel_emitChecksum h hs)
  all_goals exact .none

/-! ## Turns -/

/-- An XT that agrees is the same one with other buffer bytes and another ring. -/
theorem Xt.Agree.eq (h : x.Agree c x') : x' = (x.withBuf x'.buf).withRing x'.chan := by
  have rest := congrArg (fun y : Xt => { y with buf := x'.buf }) h.rest
  have chan : { x with buf := x'.buf, chan := x'.chan } = (x.withBuf x'.buf).withRing x'.chan :=
    congrArg (fun ch => { x with buf := x'.buf, chan := ch }) h.chan.eq_withRing
  exact rest.symm.trans chan

theorem Xt.Agree.bufs (h : x.Agree c ((x.withBuf p).withRing r)) : x.BufAgree p := h.buf

theorem Xt.BufRel.agree (h : Xt.BufRel y y') (ring : y.chan.RingAgree c r) : y.Agree c (y'.withRing r) := by
  obtain ⟨p, rfl, buf⟩ := h
  exact ⟨ring.agree, rfl, buf⟩

/-- An agreeing XT, taken apart: what it differs in, and that the invariants hold of it. -/
theorem Xt.Agree.cases (h : x.Agree c x') (inv' : x'.Inv c) :
    ∃ p r, x' = (x.withBuf p).withRing r ∧ r.Wf c .xt ∧ x.BufAgree p ∧ x.chan.RingAgree c r :=
  ⟨_, _, h.eq, inv'.chan, Xt.Agree.bufs (h.eq ▸ h), h.chan.ring⟩

theorem Xt.agree_byteStep (inv : x.Inv c) (inv' : x'.Inv c) (h : x.Agree c x') :
    (x.byteStep c).Agree c (x'.byteStep c) := by
  obtain ⟨p, r, rfl, wf', buf, ring⟩ := h.cases inv'
  have head : ((x.withBuf p).withRing r).chan.rxHead = x.chan.rxHead := ring.rxHead inv.chan wf'
  cases hb : x.chan.rxHead with
  | none => simpa only [Xt.byteStep, head, hb] using h
  | some b =>
    have rel := Xt.rel_byteRule (c := c) (b := b) buf
    have grows {y : Xt} : x.byteRule c b = some y → x.chan.Grows y.chan := Xt.grows_byteRule
    simp only [Xt.byteStep, head, hb, Xt.byteRule_withRing]
    generalize x.byteRule c b = o at rel grows
    generalize (x.withBuf p).byteRule c b = o' at rel
    cases rel with
    | none => exact h
    | some rel =>
      obtain ⟨p', rfl, buf'⟩ := rel
      have grown := grows rfl
      exact Xt.BufRel.agree (y := Xt.consume c _) ⟨p', rfl, buf'⟩ (ring.consume inv.chan wf' hb grown)

theorem Xt.emitData_withRing : (x.withRing r).emitData = x.emitData.map (Xt.withRing r) := by
  have byte : (x.withRing r).buf[(x.withRing r).sent.toNat]? = x.buf[x.sent.toNat]? := rfl
  unfold Xt.emitData
  rw [byte]
  cases x.buf[x.sent.toNat]? with
  | none => rfl
  | some b =>
    simp only [Option.map_some, apply_ite (Xt.withRing r)]
    rfl

theorem Xt.emitChecksum_withRing : (x.withRing r).emitChecksum c = (x.emitChecksum c).withRing r := by
  cases hm : x.mode with
  | checksum => rw [Xt.emitChecksum_checksum hm, Xt.emitChecksum_checksum (x := x.withRing r) hm]; rfl
  | crc =>
    cases ht : x.tidx with
    | false => rw [Xt.emitChecksum_crc_first hm ht, Xt.emitChecksum_crc_first (x := x.withRing r) hm ht]; rfl
    | true => rw [Xt.emitChecksum_crc_second hm ht, Xt.emitChecksum_crc_second (x := x.withRing r) hm ht]; rfl

theorem Xt.emit_withRing : (x.withRing r).emit c = (x.emit c).map (Xt.withRing r) := by
  have state : (x.withRing r).state = x.state := rfl
  unfold Xt.emit
  rw [apply_ite (Option.map (Xt.withRing r)), state]
  congr 1
  split
  case h_4 => exact Xt.emitData_withRing
  case h_5 => exact congrArg some Xt.emitChecksum_withRing
  all_goals rfl

theorem Xt.agree_emitted (inv : x.Inv c) (inv' : x'.Inv c) (h : x.Agree c x') :
    (x.emitted c).Agree c (x'.emitted c) := by
  obtain ⟨p, r, rfl, wf', buf, ring⟩ := h.cases inv'
  have rel := Xt.rel_emit inv buf
  have grows {y : Xt} (hy : x.emit c = some y) : ∃ p, y.chan = x.chan.txPush [p] := Xt.emit_chan hy
  unfold Xt.emitted
  rw [Xt.emit_withRing]
  generalize x.emit c = o at rel grows
  generalize (x.withBuf p).emit c = o' at rel
  cases rel with
  | none => exact h
  | @some y y' rel =>
    obtain ⟨q, grown⟩ := grows rfl
    have sent : y.chan.RingAgree c r := by
      rw [grown]
      exact ⟨ring.pending, ring.read, ring.write⟩
    exact rel.agree sent

theorem Xt.rel_tick (inv' : x'.Inv c) (h : x.Agree c x') : Option.Rel (Xt.Agree c) (x.tick c) (x'.tick c) := by
  obtain ⟨p, r, rfl, -, -, -⟩ := h.cases inv'
  exact Option.rel_ite (fun _ => .some h) fun _ =>
    Option.rel_ite (fun _ => .some ⟨h.chan, rfl, h.buf⟩) fun _ =>
    Option.rel_ite (fun _ => .some ⟨(h.chan.txPush _).evPush _, rfl, nofun⟩) fun _ => .none

theorem Xt.agree_ticked (inv' : x'.Inv c) (h : x.Agree c x') : (x.ticked c).Agree c (x'.ticked c) :=
  Option.rel_getD (Xt.rel_tick inv' h) h

/-- Loading a frame fills the buffer up to the frame size, whatever was in it (R280). -/
theorem Xt.take_loadBuf (x : Xt) {bytes : List Byte} (fits : bytes.length ≤ x.mode.frameSize) :
    (x.loadBuf bytes).take x.mode.frameSize = bytes ++ List.replicate (x.mode.frameSize - bytes.length) 0x1A :=
  List.take_left' (by rw [List.length_append, List.length_replicate, Nat.add_sub_cancel' fits])

theorem Xt.agree_obey (inv' : x'.Inv c) (h : x.Agree c x') (i : Instr) : (x.obey c i).Agree c (x'.obey c i) := by
  obtain ⟨p, r, rfl, -, -, -⟩ := h.cases inv'
  cases i with
  | evPop unit => exact rel_ite (fun _ => ⟨h.chan.evDrop, rfl, h.buf⟩) fun _ => h
  | xtStart => exact rel_ite (fun _ => ⟨h.chan, rfl, nofun⟩) fun _ => h
  | xtSendFrame n bytes =>
    refine rel_ite (fun ok => ⟨h.chan, rfl, fun _ => ?_⟩) fun _ => h
    obtain ⟨-, -, high, len⟩ := ok
    have fits : bytes.length ≤ x.mode.frameSize := len.trans_le high
    exact (x.take_loadBuf fits).trans (Xt.take_loadBuf ((x.withBuf p).withRing r) fits).symm
  | xtOver => exact rel_ite (fun _ => ⟨h.chan.txPush _, rfl, nofun⟩) fun _ => h
  | xtCancel => exact rel_ite (fun _ => ⟨h.chan.txPush _, rfl, nofun⟩) fun _ => h
  | xtClrOvf => exact ⟨h.chan.clearOverflow, rfl, h.buf⟩
  | _ => exact h

theorem Xt.Agree.refl (c : Config) (x : Xt) : x.Agree c x := ⟨.refl c _, rfl, fun _ => rfl⟩

/-- XTs that agree on all but the channel, with channels that agree. -/
theorem Xt.Agree.withChan (inv' : x'.Inv c) (h : x.Agree c x') {ch ch' : Channel} (chan : ch.Agree c ch') :
    ({ x with chan := ch } : Xt).Agree c { x' with chan := ch' } := by
  obtain ⟨p, r, rfl, -, -, -⟩ := h.cases inv'
  exact ⟨chan, rfl, h.buf⟩

theorem Xt.agree_after (inv : x.Inv c) (inv' : x'.Inv c) (h : x.Agree c x') (n : Nat) (turn : Turn) :
    (x.after c n turn).Agree c (x'.after c n turn) := by
  cases turn with
  | command k =>
    cases hd : decode (.command k) with
    | instr i => simpa only [Xt.after, hd] using Xt.agree_obey inv' h i
    | reject e => simpa only [Xt.after, hd] using h
  | rxPush u b =>
    cases u with
    | xt => exact h.withChan inv' (h.chan.rxPush inv.chan inv'.chan b)
    | _ => exact h
  | txPop u =>
    cases u with
    | xt => exact h.withChan inv' h.chan.txDrop
    | _ => exact h
  | byteStep u =>
    cases u with
    | xt => exact Xt.agree_byteStep inv inv' h
    | _ => exact h
  | tick u =>
    cases u with
    | xt => exact Xt.agree_ticked inv' h
    | _ => exact h
  | retryTick u =>
    cases u with
    | xt => exact rel_ite (fun _ => h) fun _ => Xt.agree_ticked inv' h
    | _ => exact h
  | emit => exact Xt.agree_emitted inv inv' h
  | reset => exact .refl c _

end
end Sys2Proof.Machine
end

section
/-!
No result rests on an unwritten byte (U10, U11): the units of states that agree still agree after the same turn, and the
port and the wire give the same outputs.
-/
namespace Sys2Proof.Machine

/-- What the command port returns after a step. -/
def answerOf : Host.Outcome State Fault Refusal → Option Response
  | .next t => t.response
  | _ => none

/-- The block with other bytes in the buffers `p`, `d`, `q`, `v` and the rings `r`, `r'`, `r''`. -/
def State.withBytes (s : State) (p d q v : List Byte) (r r' r'' : Channel) : State :=
  { s with
    fe := (s.fe.withBufs p d).withRing r, xr := (s.xr.withBuf q).withRing r', xt := (s.xt.withBuf v).withRing r'' }

section
variable {s : State} {p d q v : List Byte} {r r' r'' : Channel}

/-! ## The port's answers -/

theorem answerOf_ite {o : Prop} [Decidable o] {a a' b b' : Host.Outcome State Fault Refusal}
    (yes : o → answerOf a = answerOf a') (no : ¬o → answerOf b = answerOf b') :
    answerOf (if o then a else b) = answerOf (if o then a' else b') :=
  rel_ite (R := fun a a' => answerOf a = answerOf a') yes no

theorem answer_regRead (reg : Byte) :
    answerOf (exec (.regRead reg) (s.withBytes p d q v r r' r'')) = answerOf (exec (.regRead reg) s) := by
  have same : readReg (s.withBytes p d q v r r' r'') reg = readReg s reg := rfl
  cases h : readReg s reg with
  | none => rw [exec_regRead_of_none h, exec_regRead_of_none (same.trans h)]; rfl
  | some value => rw [exec_regRead_of_some h, exec_regRead_of_some (same.trans h)]; rfl

theorem answer_evPop (unit : Byte) :
    answerOf (exec (.evPop unit) (s.withBytes p d q v r r' r'')) = answerOf (exec (.evPop unit) s) := by
  cases hu : unitOf unit with
  | none => rw [exec_evPop_of_no_unit hu, exec_evPop_of_no_unit hu]; rfl
  | some u =>
    have same : ((s.withBytes p d q v r r' r'').chanOf u).evq = (s.chanOf u).evq := by cases u <;> rfl
    cases hq : (s.chanOf u).evq with
    | nil => rw [exec_evPop_of_empty hu hq, exec_evPop_of_empty hu (same.trans hq)]; rfl
    | cons e es => rw [exec_evPop_of_head hu hq, exec_evPop_of_head hu (same.trans hq)]; rfl

/-- FE_TAKE returns the delivered bytes, in which agreeing slots do not differ. -/
theorem answer_feTake (bufs : s.fe.BufAgree p d) :
    answerOf (exec .feTake (s.withBytes p d q v r r' r'')) = answerOf (exec .feTake s) := by
  refine answerOf_ite (fun full => ?_) fun _ => rfl
  show some (⟨.ok, .packet _ _ (d.take s.fe.dlvLen.toNat)⟩ : Response) = _
  rw [← bufs.dlv full]
  rfl

theorem answer_xrStart (mode : Byte) :
    answerOf (exec (.xrStart mode) (s.withBytes p d q v r r' r'')) = answerOf (exec (.xrStart mode) s) := by
  show answerOf (execXrStart _ _) = answerOf (execXrStart _ _)
  unfold execXrStart
  cases checkModeOf mode with
  | none => rfl
  | some m => exact answerOf_ite (fun _ => rfl) fun _ => answerOf_ite (fun _ => rfl) fun _ => rfl

theorem answer_crcInit (mode : Byte) :
    answerOf (exec (.crcInit mode) (s.withBytes p d q v r r' r'')) = answerOf (exec (.crcInit mode) s) := by
  show answerOf (execCrcInit _ _) = answerOf (execCrcInit _ _)
  unfold execCrcInit
  cases crcModeOf mode <;> rfl

/-- A command's answer reads no unwritten byte. -/
theorem answer_withBytes (bufs : s.fe.BufAgree p d) {k : Command} {i : Instr} (hd : decode (.command k) = .instr i) :
    answerOf (exec i (s.withBytes p d q v r r' r'')) = answerOf (exec i s) := by
  obtain ⟨-, rfl⟩ | ⟨-, rfl⟩ | ⟨-, rfl⟩ | ⟨-, rfl⟩ | ⟨-, rfl⟩ | ⟨-, rfl⟩ | ⟨-, rfl⟩ | ⟨-, rfl⟩ | ⟨-, rfl⟩ | ⟨-, rfl⟩ |
    ⟨-, rfl⟩ | ⟨-, rfl⟩ | ⟨-, rfl⟩ | ⟨-, rfl⟩ | ⟨-, rfl⟩ | ⟨-, rfl⟩ | ⟨-, rfl⟩ := decode_command_cases hd
  · exact answer_regRead _
  · exact answerOf_ite (fun _ => rfl) fun _ => answerOf_ite (fun _ => rfl) fun _ =>
      answerOf_ite (fun _ => rfl) fun _ => rfl
  · exact answer_evPop _
  · exact answerOf_ite (fun _ => rfl) fun _ => answerOf_ite (fun _ => rfl) fun _ =>
      answerOf_ite (fun _ => rfl) fun _ => rfl
  · exact answer_feTake bufs
  · rfl
  · rfl
  · exact answer_xrStart _
  · exact answerOf_ite (fun _ => rfl) fun _ => answerOf_ite (fun _ => rfl) fun _ => rfl
  · rfl
  · exact answerOf_ite (fun _ => rfl) fun _ => rfl
  · exact answerOf_ite (fun _ => rfl) fun _ => answerOf_ite (fun _ => rfl) fun _ =>
      answerOf_ite (fun _ => rfl) fun _ => rfl
  · exact answerOf_ite (fun _ => rfl) fun _ => answerOf_ite (fun _ => rfl) fun _ =>
      answerOf_ite (fun _ => rfl) fun _ => rfl
  · exact answerOf_ite (fun _ => rfl) fun _ => answerOf_ite (fun _ => rfl) fun _ => rfl
  · rfl
  · exact answer_crcInit _
  · rfl

/-! ## Both outputs, over every turn -/

/-- A turn that is no command, no transmit pop and no reset leaves the two port outputs. -/
theorem takeTurn_keeps_outputs {turn : Turn} (notCommand : ∀ k, turn ≠ .command k) (notPop : ∀ u, turn ≠ .txPop u)
    (notReset : turn ≠ .reset) (s : State) : takeTurn turn s = .next (s.after turn) := by
  cases turn with
  | command k => exact absurd rfl (notCommand k)
  | txPop u => exact absurd rfl (notPop u)
  | reset => exact absurd rfl notReset
  | rxPush u b => cases u <;> rfl
  | byteStep u =>
    cases u with
    | fe => exact takeTurn_fe_eq s
    | xr => exact takeTurn_xr_eq s
    | xt => exact takeTurn_xt_eq s
  | tick u => exact (takeTurn_of_none rfl).trans (congrArg _ (tickTurn_eq s u))
  | retryTick u => exact (takeTurn_of_none rfl).trans (congrArg _ (retryTickTurn_eq s u))
  | emit => exact (takeTurn_of_none rfl).trans (congrArg _ (emitTurn_eq s))

/-- A command leaves the wire. -/
theorem takeTurn_command_wire {k : Command} {s t : State} (h : takeTurn (.command k) s = .next t) : t.wire = s.wire := by
  obtain ⟨a, answered⟩ := takeTurn_command_eq k s
  rw [← Host.Outcome.next.inj (answered.symm.trans h)]
  rfl

theorem takeTurn_command_response (bufs : s.fe.BufAgree p d) {k : Command} {t t' : State}
    (h : takeTurn (.command k) s = .next t) (h' : takeTurn (.command k) (s.withBytes p d q v r r' r'') = .next t') :
    t'.response = t.response := by
  cases hd : decode (.command k) with
  | reject e =>
    rw [takeTurn_of_reject rfl hd] at h h'
    rw [← Host.Outcome.next.inj h, ← Host.Outcome.next.inj h']
    rfl
  | instr i =>
    rw [takeTurn_of_instr rfl hd] at h h'
    have same := answer_withBytes (q := q) (v := v) (r := r) (r' := r') (r'' := r'') bufs hd
    rw [h, h'] at same
    exact same

theorem takeTurn_txPop_outputs {u : UnitId} {t t' : State} (h : takeTurn (.txPop u) s = .next t)
    (h' : takeTurn (.txPop u) (s.withBytes p d q v r r' r'') = .next t') :
    t'.response = t.response ∧ t'.wire = t.wire := by
  have same : ((s.withBytes p d q v r r' r'').chanOf u).txq = (s.chanOf u).txq := by cases u <;> rfl
  cases hq : (s.chanOf u).txq with
  | nil =>
    obtain rfl := Host.Outcome.next.inj ((takeTurn_txPop_of_empty hq).symm.trans h)
    obtain rfl := Host.Outcome.next.inj ((takeTurn_txPop_of_empty (same.trans hq)).symm.trans h')
    exact ⟨rfl, rfl⟩
  | cons b bytes =>
    obtain rfl := Host.Outcome.next.inj ((takeTurn_txPop_of_head hq).symm.trans h)
    obtain rfl := Host.Outcome.next.inj ((takeTurn_txPop_of_head (same.trans hq)).symm.trans h')
    cases u <;> exact ⟨rfl, rfl⟩

theorem takeTurn_outputs (bufs : s.fe.BufAgree p d) {turn : Turn} {t t' : State} (h : takeTurn turn s = .next t)
    (h' : takeTurn turn (s.withBytes p d q v r r' r'') = .next t') : t'.response = t.response ∧ t'.wire = t.wire := by
  by_cases isCommand : ∃ k, turn = .command k
  case pos =>
    obtain ⟨k, rfl⟩ := isCommand
    exact ⟨takeTurn_command_response bufs h h', (takeTurn_command_wire h').trans (takeTurn_command_wire h).symm⟩
  by_cases isPop : ∃ u, turn = .txPop u
  case pos =>
    obtain ⟨u, rfl⟩ := isPop
    exact takeTurn_txPop_outputs h h'
  by_cases isReset : turn = .reset
  case pos =>
    subst isReset
    rw [takeTurn_reset] at h h'
    rw [← Host.Outcome.next.inj h, ← Host.Outcome.next.inj h']
    exact ⟨rfl, rfl⟩
  · have keeps := takeTurn_keeps_outputs (not_exists.mp isCommand) (not_exists.mp isPop) isReset
    rw [← Host.Outcome.next.inj ((keeps _).symm.trans h), ← Host.Outcome.next.inj ((keeps _).symm.trans h')]
    exact ⟨rfl, rfl⟩

end

/-! ## The whole block -/

section
variable {s s' t : State}

/-- A state that agrees is the same one with other bytes at open places. -/
theorem State.Agree.cases (inv' : s'.Inv) (h : s.Agree s') :
    ∃ p d q v r r' r'', s' = s.withBytes p d q v r r' r'' ∧ s.fe.BufAgree p d := by
  have cfg : s'.cfg = s.cfg := (congrArg State.cfg h.rest).symm
  obtain ⟨p, d, r, hf, -, -, bufs, -⟩ := h.fe.cases (cfg ▸ inv'.fe)
  obtain ⟨q, r', hx, -⟩ := h.xr.cases (cfg ▸ inv'.xr)
  obtain ⟨v, r'', hy, -⟩ := h.xt.cases (cfg ▸ inv'.xt)
  refine ⟨p, d, q, v, r, r', r'', ?_, bufs⟩
  have rest := h.rest
  rw [hf, hx, hy] at rest
  exact rest.symm

/-- The same turn leaves states that agree in states that agree. -/
theorem State.Agree.takeTurn (inv : s.Inv) (inv' : s'.Inv) (h : s.Agree s') {turn : Turn}
    (ht : Machine.takeTurn turn s = .next t) : ∃ t', Machine.takeTurn turn s' = .next t' ∧ t.Agree t' := by
  obtain ⟨p, d, q, v, r, r', r'', rfl, bufs⟩ := h.cases inv'
  obtain ⟨a, w, ht'⟩ := takeTurn_eq turn (s.withBytes p d q v r r' r'')
  obtain ⟨response, wire⟩ := takeTurn_outputs bufs ht ht'
  refine ⟨_, ht', ?_⟩
  have heldFe := Option.rel_isNone (Fe.rel_tick (c := s.cfg) inv'.fe h.fe)
  have heldXr := Option.rel_isNone (Xr.rel_tick (c := s.cfg) inv'.xr h.xr)
  have heldXt := Option.rel_isNone (Xt.rel_tick (c := s.cfg) inv'.xt h.xt)
  simp only at response wire
  rw [after_of_takeTurn ht, response, wire]
  refine ⟨Fe.agree_after inv.fe inv'.fe h.fe _ _, Xr.agree_after inv.xr inv'.xr h.xr _ _,
    Xt.agree_after inv.xt inv'.xt h.xt _ _, ?_⟩
  unfold State.after
  rw [heldFe, heldXr, heldXt]
  rfl

end
end Sys2Proof.Machine

namespace Sys2Proof.Proofs
open Sys2Proof.Machine

/-- Settles O60: with an empty schedule nothing happens; otherwise the same turn is taken from states that agree. -/
theorem unwrittenBytesNeverMatter : Obligations.UnwrittenBytesNeverMatter := by
  intro s s' t inv inv' agree h
  have agenda : s'.agenda = s.agenda := (congrArg State.agenda agree.rest).symm
  cases ha : s.agenda with
  | nil =>
    rw [step_of_empty ha] at h
    rw [← Host.Outcome.next.inj h]
    exact ⟨s', step_of_empty (agenda.trans ha), agree⟩
  | cons turn rest =>
    rw [step_of_turn ha] at h
    rw [step_of_turn (agenda.trans ha)]
    have scheduled : (s.setAgenda rest).Agree (s'.setAgenda rest) :=
      ⟨agree.fe, agree.xr, agree.xt, congrArg (State.setAgenda · rest) agree.rest⟩
    exact scheduled.takeTurn (inv.setAgenda rest) (inv'.setAgenda rest) h

end Sys2Proof.Proofs
end
